-- ==== Sys2Proof/Word.lean ====
section
/-! DEFINITION. The byte, the bus word and the byte sequences of the spec (00_scope.md R9 to R11). A cipher word is a
sequence of four bytes and never a number; only the 32-bit bus word is a number. -/

namespace Sys2Proof

/-- A byte: 8 bits, bit 7 the high bit (R9). -/
abbrev Byte := BitVec 8

/-- A bus word: a 32-bit number, bits 31 to 0 (R9, R8 BUSW). -/
abbrev BusWord := BitVec 32

/-- `Byte^16`: a block, the key material, or the 16-byte state matrix, whose row r, column c is byte `r + 4*c`
(R10, R11). -/
abbrev Block := Vector Byte 16

/-- `Byte^176`: the schedule, eleven consecutive 16-byte round keys (R7 SCHLEN, R35). -/
abbrev Schedule := Vector Byte 176

/-- A cipher word `(b0, b1, b2, b3)`: a schedule word, or one column of the state matrix (R9, R11, R141). -/
structure Word4 where
  b0 : Byte
  b1 : Byte
  b2 : Byte
  b3 : Byte
deriving DecidableEq, Repr, Inhabited

end Sys2Proof
end

