-- ==== Sys2Proof/Config.lean ====
section
/-! DEFINITION. The constants the source fixes (00_scope.md R7) and the open parameters (R8). An open parameter is a
constant without a body: nothing can be proved of its value. Machine/State.lean carries the parameters as data, so that
a statement over all states holds for every choice of them; these constants are their values after reset. -/

namespace Sys2Proof.Config

/-- KEYLEN, the length of the key material in bytes (R7). -/
def keyLen : Nat := 16

/-- BLKLEN, the length of one block in bytes (R7). -/
def blkLen : Nat := 16

/-- REDUCE, the reduction constant of the doubling step (R7, R111). -/
def reduce : Byte := 0x1B

/-- VARIANT, the tag of the one cipher variant this core implements (R29). -/
def variantTag : Byte := 1

/-- ALLOC_CAN_FAIL; "this hardware: false" (R8, R265). -/
def allocCanFail : Bool := false

/-- WIPE_CAN_FAIL, open (R8, R264). -/
opaque wipeCanFail : Bool

/-- ADMIT_CORRUPTION, open (R8, R268). -/
opaque admitCorruption : Bool

/-- One less than ICW, the width of the integrity code: ICW is open, "any width ≥ 1" (R8). -/
opaque icwLessOne : Nat

/-- ICODE, the integrity-code compute primitive: an uninterpreted function of the 16 key bytes (R8, R263). The model
cuts its value to ICW bits. -/
opaque icode : Block → Nat

/-- The bytes and the verdict bits the environment draws for the n-th command after the scripted answers have run out
(R262): the schedule wipe's pattern. -/
opaque freeSchedulePattern : Nat → Schedule

/-- As above: the key wipe's pattern (R262, R264). -/
opaque freeKeyPattern : Nat → Block

/-- As above: the schedule wipe's verdict (R262, R264). -/
opaque freeScheduleWipeOk : Nat → Bool

/-- As above: the key wipe's verdict (R262, R264). -/
opaque freeKeyWipeOk : Nat → Bool

/-- As above: the allocation primitive's verdict (R262, R265). -/
opaque freeAllocOk : Nat → Bool

/-- As above: the INTEROP pin (R262, R266). -/
opaque freeInterop : Nat → Bool

end Sys2Proof.Config
end

