-- ==== Sys2Proof/Machine/Gf.lean ====
section
/-! DEFINITION. The GF(2^8) multiplier (40_gf_arithmetic.md): internal combinational procedures, without flags or
errors. -/

namespace Sys2Proof.Machine

/-- XTIME, multiplication by {02}: shift left by one, and XOR 0x1B if the original high bit was set (R111). -/
def xtime (x : Byte) : Byte := (x <<< 1) ^^^ (if x.getLsbD 7 then Config.reduce else 0)

/-- MUL3 (R112). -/
def mul3 (x : Byte) : Byte := xtime x ^^^ x

/-- MUL9 (R113). -/
def mul9 (x : Byte) : Byte := xtime (xtime (xtime x)) ^^^ x

/-- MULB (R114). -/
def mulB (x : Byte) : Byte := xtime (xtime (xtime x)) ^^^ xtime x ^^^ x

/-- MULD (R115). -/
def mulD (x : Byte) : Byte := xtime (xtime (xtime x)) ^^^ xtime (xtime x) ^^^ x

/-- MULE (R116). -/
def mulE (x : Byte) : Byte := xtime (xtime (xtime x)) ^^^ xtime (xtime x) ^^^ xtime x

/-- `XTIME^n(x)` (R119, R134). -/
def xtimes : Nat → Byte → Byte
  | 0, x => x
  | n + 1, x => xtime (xtimes n x)

/-- The general product of R119: "xor over the set bits k of b of XTIME^k(a)". No command uses it; the tables'
construction (R134) does. -/
def gmul (a b : Byte) : Byte :=
  (List.range 8).foldl (fun acc n => acc ^^^ (if b.getLsbD n then xtimes n a else 0)) 0

end Sys2Proof.Machine
end

