-- ==== Sys2Proof/Syntax.lean ====
section
/-! DEFINITION. The commands: one constructor per row of spec/opcode_table.json (30_encoding.md R93). -/

namespace Sys2Proof

/-- A command with its two operand fields as unsigned numbers (R91): KOBJ selects the key object, LEN is the length
operand in bytes, carried by SET_KEY, ENCRYPT and DECRYPT only (the other five commands require LEN = 0, R94). -/
inductive Instr where
  | create (kobj : Nat)
  | setKey (kobj len : Nat)
  | encrypt (kobj len : Nat)
  | decrypt (kobj len : Nat)
  | setMask (kobj : Nat)
  | unmask (kobj : Nat)
  | deleteKeys (kobj : Nat)
  | destroy (kobj : Nat)
deriving DecidableEq, Repr

end Sys2Proof
end

