-- ==== Sys2Proof/WellFormed.lean ====
section
/-! DEFINITION. Which commands a command word can express: KOBJ has 4 bits and LEN has 8 (30_encoding.md R90). "Lengths
above 255 cannot be expressed" (R91). -/

namespace Sys2Proof

/-- KOBJ fits bits 7:4 of the command word (R90). -/
def kobjFits (kobj : Nat) : Bool := decide (kobj < 16)

/-- LEN fits bits 15:8 of the command word (R90, R91). -/
def lenFits (len : Nat) : Bool := decide (len < 256)

/-- The fields of the command fit the command word. -/
def Instr.wellFormed : Instr → Bool
  | .create kobj => kobjFits kobj
  | .setKey kobj len => kobjFits kobj && lenFits len
  | .encrypt kobj len => kobjFits kobj && lenFits len
  | .decrypt kobj len => kobjFits kobj && lenFits len
  | .setMask kobj => kobjFits kobj
  | .unmask kobj => kobjFits kobj
  | .deleteKeys kobj => kobjFits kobj
  | .destroy kobj => kobjFits kobj

end Sys2Proof
end

