-- ==== Sys2Proof/Decode.lean ====
section
/-! DEFINITION. From a command word to a command, total on all 2^32 words and rejecting by name (30_encoding.md R90 to
R95, R99), then the encoder written from the same table (R93). -/

namespace Sys2Proof

/-- Why a command word is illegal (R94): each case ends the command with RES_ILLEGAL_CMD. -/
inductive Reject where
  /-- RSV, bits 31:16, is not 0. -/
  | reservedBits
  /-- OPC is 0x0 or 0x9 to 0xF. -/
  | unassignedOpcode
  /-- LEN is not 0 on a command that takes no length. -/
  | nonzeroLength
deriving DecidableEq, Repr

/-- `OPC = w[3:0]` (R91). -/
def opcField (w : BusWord) : BitVec 4 := w.extractLsb' 0 4

/-- `KOBJ = w[7:4]`, an unsigned number (R91). -/
def kobjField (w : BusWord) : Nat := (w.extractLsb' 4 4).toNat

/-- `LEN = w[15:8]`, an unsigned number (R91). -/
def lenField (w : BusWord) : Nat := (w.extractLsb' 8 8).toNat

/-- `RSV = w[31:16]` (R91). -/
def rsvField (w : BusWord) : BitVec 16 := w.extractLsb' 16 16

/-- A command without a length operand: LEN must be 0 (R90, R94). -/
def withoutLength (w : BusWord) (i : Instr) : Except Reject Instr :=
  if lenField w = 0 then .ok i else .error .nonzeroLength

/-- The decoder of R99: `Illegal(w)` is exactly the error cases, and a legal word gives its command. -/
def decode (w : BusWord) : Except Reject Instr :=
  if rsvField w ≠ 0 then .error .reservedBits
  else match (opcField w).toNat with
    | 1 => withoutLength w (.create (kobjField w))
    | 2 => .ok (.setKey (kobjField w) (lenField w))
    | 3 => .ok (.encrypt (kobjField w) (lenField w))
    | 4 => .ok (.decrypt (kobjField w) (lenField w))
    | 5 => withoutLength w (.setMask (kobjField w))
    | 6 => withoutLength w (.unmask (kobjField w))
    | 7 => withoutLength w (.deleteKeys (kobjField w))
    | 8 => withoutLength w (.destroy (kobjField w))
    | _ => .error .unassignedOpcode

/-- The OPC value of each command (R93). -/
def Instr.opcode : Instr → BitVec 4
  | .create _ => 0x1
  | .setKey _ _ => 0x2
  | .encrypt _ _ => 0x3
  | .decrypt _ _ => 0x4
  | .setMask _ => 0x5
  | .unmask _ => 0x6
  | .deleteKeys _ => 0x7
  | .destroy _ => 0x8

/-- The KOBJ operand (R90). -/
def Instr.kobj : Instr → Nat
  | .create kobj => kobj
  | .setKey kobj _ => kobj
  | .encrypt kobj _ => kobj
  | .decrypt kobj _ => kobj
  | .setMask kobj => kobj
  | .unmask kobj => kobj
  | .deleteKeys kobj => kobj
  | .destroy kobj => kobj

/-- The LEN field of the command word: 0 for a command without a length (R90). -/
def Instr.lenOperand : Instr → Nat
  | .create _ => 0
  | .setKey _ len => len
  | .encrypt _ len => len
  | .decrypt _ len => len
  | .setMask _ => 0
  | .unmask _ => 0
  | .deleteKeys _ => 0
  | .destroy _ => 0

/-- The command word of a well-formed command, laid out as R93's pattern column: RSV, LEN, KOBJ, OPC from bit 31 down. -/
def encode (i : Instr) : BusWord :=
  0#16 ++ BitVec.ofNat 8 i.lenOperand ++ BitVec.ofNat 4 i.kobj ++ i.opcode

/-- One row of the opcode map: a word `w` encodes the command when `(w &&& mask) = pat` (R93). -/
structure OpcodeRow where
  mnemonic : String
  pat : BusWord
  mask : BusWord
deriving DecidableEq, Repr

/-- The row of each command, as R93 prints it. -/
def Instr.row : Instr → OpcodeRow
  | .create _ => ⟨"CREATE", 0x00000001, 0xFFFFFF0F⟩
  | .setKey _ _ => ⟨"SET_KEY", 0x00000002, 0xFFFF000F⟩
  | .encrypt _ _ => ⟨"ENCRYPT", 0x00000003, 0xFFFF000F⟩
  | .decrypt _ _ => ⟨"DECRYPT", 0x00000004, 0xFFFF000F⟩
  | .setMask _ => ⟨"SET_MASK", 0x00000005, 0xFFFFFF0F⟩
  | .unmask _ => ⟨"UNMASK", 0x00000006, 0xFFFFFF0F⟩
  | .deleteKeys _ => ⟨"DELETE_KEYS", 0x00000007, 0xFFFFFF0F⟩
  | .destroy _ => ⟨"DESTROY", 0x00000008, 0xFFFFFF0F⟩

/-- The opcode map (R93), one row per command. -/
def opcodeTable : List OpcodeRow :=
  [Instr.row (.create 0), Instr.row (.setKey 0 0), Instr.row (.encrypt 0 0), Instr.row (.decrypt 0 0),
   Instr.row (.setMask 0), Instr.row (.unmask 0), Instr.row (.deleteKeys 0), Instr.row (.destroy 0)]

/-- The command word that a table word of `nbits` bits stands for: every bit above `nbits` is 0. -/
def tableWord (nbits w : Nat) : BusWord := BitVec.ofNat 32 (w % 2 ^ nbits)

/-- What the decoder reads from a table word; none where it refuses, or where the word would not fit a command word. -/
def decodeTableWord (nbits w : Nat) : Option Instr :=
  if nbits ≤ 32 then (decode (tableWord nbits w)).toOption else none

end Sys2Proof
end

