-- ==== Sys2Proof/Machine/State.lean ====
section
/-! DEFINITION. The state as plain data (10_state.md): the host-visible registers, the key object, the host buffers, and
beside them the model's own fields, which carry what the spec makes an input of the step function (R44): the open
parameters, the environment's answers, the accesses still to come, and the answer the bus gave last. -/

namespace Sys2Proof.Machine

/-- The result codes of 60_exceptions.md R241; there is no other (93_implementation_defined.md U13). -/
inductive ResultCode where
  | ok | nullRef | invalidLength | integrity | noMemory | wipeWarn | illegalCmd | alreadyBound | notReady | faulted
deriving DecidableEq, Repr

/-- One answer of the wipe primitive for a store of n bytes: whether it guarantees the overwrite, and the pattern it
wrote (R261, R264). -/
structure Wipe (n : Nat) where
  ok : Bool
  pat : Vector Byte n
deriving DecidableEq, Repr

/-- The environment record `env` of one command execution (R261). -/
structure Env where
  interop : Bool
  allocOk : Bool
  wipeSched : Wipe 176
  wipeKey : Wipe 16
deriving DecidableEq, Repr

/-- The open parameters of 00_scope.md R8 that a rule depends on. They are fixed: no step writes them. `codes` lists
values of ICODE for chosen keys; for every other key ICODE is the uninterpreted `Config.icode`. -/
structure Params where
  wipeCanFail : Bool
  allocCanFail : Bool
  admitCorruption : Bool
  icw : Nat
  codes : List (Block × Nat)
deriving DecidableEq, Repr

/-- The access widths other than 32 bits, all refused (R66). -/
inductive OddWidth where
  | w8 | w16 | w64
deriving DecidableEq, Repr

/-- What can reach the core between two of its steps: a bus access at an offset of the 64-byte window (R60, R62, R63,
R66), the reset event (R280) and the corruption event (R268). -/
inductive Input where
  /-- `BusRead(off)`, 32 bits. -/
  | read (off : BitVec 6)
  /-- `BusWrite(off, v)`, 32 bits. -/
  | write (off : BitVec 6) (v : BusWord)
  /-- A read of another width. -/
  | oddRead (width : OddWidth) (off : BitVec 6)
  /-- A write of another width; its data never matters. -/
  | oddWrite (width : OddWidth) (off : BitVec 6)
  /-- The reset input is asserted. -/
  | reset
  /-- `Corrupt(k')`. -/
  | corrupt (k' : Block)
deriving DecidableEq, Repr

/-- What the bus answered to the latest input: nothing (it was no bus access), the value read, the completion of a
write, or a bus error, which carries no data ("a refused read returns no defined data", R66). -/
inductive Response where
  | none | value (v : BusWord) | done | busError
deriving DecidableEq, Repr

/-- Why the machine stops with a fault. No command and no bus access ends in one. -/
inductive Fault where
  /-- Raised by step (through `corruptKey`) on a corruption event while ADMIT_CORRUPTION is false: "If and only if
  parameter ADMIT_CORRUPTION is true, the environment has one action of its own" (R268), so that event cannot happen.
  Safe: the model stops on an input no hardware has. -/
  | corruptionNotAdmitted
deriving DecidableEq, Repr

/-- Why an instruction has no meaning. -/
inductive Refusal where
  /-- Raised by exec for a command without a meaning; no arm of exec raises it in this model. Safe: the model stops. -/
  | notModelled (mnemonic : String)
deriving DecidableEq, Repr

/-- The state of the core (10_state.md) and, from `params` on, the model's own fields. -/
structure State where
  /-- BOUND, STATUS bit 0 (R30). -/
  bound : Bool
  /-- RDY, STATUS bit 1 (R37). -/
  rdy : Bool
  /-- SHELD, STATUS bit 2 (R36). -/
  sheld : Bool
  /-- FAULT, STATUS bit 3, sticky (R38). -/
  fault : Bool
  /-- RESULT, STATUS bits 11:8 (R39). -/
  result : ResultCode
  /-- LASTOP, STATUS bits 15:12 (R39). -/
  lastop : BitVec 4
  /-- MASKED, FLAGS bit 0 (R33). -/
  masked : Bool
  /-- KEYSIZE, INFO bits 7:0 (R29, R34). -/
  keysize : Byte
  /-- BLKSIZE, INFO bits 15:8 (R29, R34). -/
  blksize : Byte
  /-- VARIANT, INFO bits 23:16 (R29, R34). -/
  variant : Byte
  /-- K, the key register (R31). -/
  k : Block
  /-- IC, the integrity code: ICW bits, compared and never computed with (R32). -/
  ic : Nat
  /-- SCHED, the schedule storage (R35). -/
  sched : Schedule
  /-- KEY_IN (R22). -/
  keyIn : Block
  /-- DATA_IN (R23). -/
  dataIn : Block
  /-- DATA_OUT (R23). -/
  dataOut : Block
  /-- The model's own: the open parameters (R8, R44). -/
  params : Params
  /-- The model's own: the environment's answers to the coming commands, one record a command, first command first
  (R261); past their end a command draws free answers. -/
  answers : List Env
  /-- The model's own: how many commands have been executed, the index of the free answers (R262). -/
  draws : Nat
  /-- The model's own: the inputs still to come, first one first (R70, R97). -/
  inputs : List Input
  /-- The model's own: the bus's answer to the latest input (R62, R66). -/
  response : Response
deriving DecidableEq, Repr

/-- `Zero(n)` (R10). -/
def zeroBytes (n : Nat) : Vector Byte n := Vector.replicate n 0

/-- The open parameters as the hardware has them. -/
def Params.hardware : Params where
  wipeCanFail := Config.wipeCanFail
  allocCanFail := Config.allocCanFail
  admitCorruption := Config.admitCorruption
  icw := Config.icwLessOne + 1
  codes := []

/-- The core right after reset: every piece of state at the value of 10_state.md R46. The model's own fields: the
hardware's parameters, no scripted answer, no input pending (DESIGN CHOICE, log entries 2, 3, 4 and 8). -/
def State.reset : State where
  bound := false
  rdy := false
  sheld := false
  fault := false
  result := .ok
  lastop := 0
  masked := false
  keysize := 0
  blksize := 0
  variant := 0
  k := zeroBytes 16
  ic := 0
  sched := zeroBytes 176
  keyIn := zeroBytes 16
  dataIn := zeroBytes 16
  dataOut := zeroBytes 16
  params := .hardware
  answers := []
  draws := 0
  inputs := []
  response := .none

end Sys2Proof.Machine
end

