-- ==== Sys2Proof/Machine/Flags.lean ====
section
/-! DEFINITION. The result codes as numbers (60_exceptions.md R241) and the three read-only registers the host sees,
assembled from the fields of State (10_state.md R27 to R29, 20_memory.md R62). Every unnamed bit reads 0. -/

namespace Sys2Proof.Machine

/-- The 4-bit code of each result (R241). -/
def ResultCode.code : ResultCode → BitVec 4
  | .ok => 0
  | .nullRef => 1
  | .invalidLength => 2
  | .integrity => 3
  | .noMemory => 4
  | .wipeWarn => 5
  | .illegalCmd => 6
  | .alreadyBound => 7
  | .notReady => 8
  | .faulted => 9

/-- `zext_32` of one bit (R12). -/
def bit32 (b : Bool) : BusWord := (BitVec.ofBool b).setWidth 32

/-- STATUS = BOUND | RDY << 1 | SHELD << 2 | FAULT << 3 | RESULT << 8 | LASTOP << 12 (R62). -/
def State.status (s : State) : BusWord :=
  bit32 s.bound ||| bit32 s.rdy <<< 1 ||| bit32 s.sheld <<< 2 ||| bit32 s.fault <<< 3
    ||| s.result.code.setWidth 32 <<< 8 ||| s.lastop.setWidth 32 <<< 12

/-- FLAGS = zext_32(MASKED) (R28, R62). -/
def State.flags (s : State) : BusWord := bit32 s.masked

/-- INFO = KEYSIZE | BLKSIZE << 8 | VARIANT << 16 (R29, R62). -/
def State.info (s : State) : BusWord :=
  s.keysize.setWidth 32 ||| s.blksize.setWidth 32 <<< 8 ||| s.variant.setWidth 32 <<< 16

end Sys2Proof.Machine
end

