-- ==== Sys2Proof/Machine/Operands.lean ====
section
/-! DEFINITION. The operand forms: the bytes of words and blocks (00_scope.md R10, R11), the byte lanes of the bus
(20_memory.md R62 to R64), the registers of the window (R61), the environment's answers as a command reads them
(60_exceptions.md R261, R262) and the integrity check (45_lifecycle_commands.md R209). -/

namespace Sys2Proof.Machine

/-- Byte j of a cipher word (R9). -/
def byteOf (w : Word4) : Fin 4 → Byte
  | 0 => w.b0
  | 1 => w.b1
  | 2 => w.b2
  | 3 => w.b3

/-- "Words are XORed byte by byte" (R141). -/
def xorWord (a b : Word4) : Word4 := ⟨a.b0 ^^^ b.b0, a.b1 ^^^ b.b1, a.b2 ^^^ b.b2, a.b3 ^^^ b.b3⟩

/-- `col(S, c) = (S[4c], S[4c+1], S[4c+2], S[4c+3])` (R11). -/
def column (s : Block) (c : Fin 4) : Word4 := ⟨s[4 * c.val], s[4 * c.val + 1], s[4 * c.val + 2], s[4 * c.val + 3]⟩

/-- The block whose column c is `f c`. -/
def ofColumns (f : Fin 4 → Word4) : Block :=
  Vector.ofFn fun n => byteOf (f ⟨n.val / 4, by omega⟩) ⟨n.val % 4, by omega⟩

/-- `Pack(X, w)`: byte 4w+j travels in bits 8j+7 : 8j (R62, R64). -/
def pack (x : Block) (w : Fin 4) : BusWord :=
  x[4 * w.val].setWidth 32 ||| x[4 * w.val + 1].setWidth 32 <<< 8 ||| x[4 * w.val + 2].setWidth 32 <<< 16
    ||| x[4 * w.val + 3].setWidth 32 <<< 24

/-- `Unpack(X, w, v)`: the four bytes of word w are replaced by the lanes of v, and no other byte (R63, R64). -/
def unpack (x : Block) (w : Fin 4) (v : BusWord) : Block :=
  (((x.set (4 * w.val) (v.extractLsb' 0 8)).set (4 * w.val + 1) (v.extractLsb' 8 8)).set
    (4 * w.val + 2) (v.extractLsb' 16 8)).set (4 * w.val + 3) (v.extractLsb' 24 8)

/-- A register of the window; the buffers have four words each (R61). -/
inductive Reg where
  | cmd | status | flags | info
  | keyIn (w : Fin 4)
  | dataIn (w : Fin 4)
  | dataOut (w : Fin 4)
deriving DecidableEq, Repr

/-- The register at word index n of the window: "All 16 word locations are assigned" (R61). -/
def regAtWord (n : Fin 16) : Reg :=
  if h : n.val < 4 then
    match n.val with
    | 0 => .cmd
    | 1 => .status
    | 2 => .flags
    | _ => .info
  else if h : n.val < 8 then .keyIn ⟨n.val - 4, by omega⟩
  else if h : n.val < 12 then .dataIn ⟨n.val - 8, by omega⟩
  else .dataOut ⟨n.val - 12, by omega⟩

/-- The register at a window offset; none where the offset is not a multiple of 4 (R61, R66). -/
def regAt (off : BitVec 6) : Option Reg :=
  if off.toNat % 4 = 0 then some (regAtWord ⟨off.toNat / 4, by have := off.isLt; omega⟩) else none

/-- The offset of a register (R61). -/
def Reg.offset : Reg → BitVec 6
  | .cmd => 0x00
  | .status => 0x04
  | .flags => 0x08
  | .info => 0x0C
  | .keyIn w => BitVec.ofNat 6 (0x10 + 4 * w.val)
  | .dataIn w => BitVec.ofNat 6 (0x20 + 4 * w.val)
  | .dataOut w => BitVec.ofNat 6 (0x30 + 4 * w.val)

/-- The free answers of the n-th command (R262: a draw is chosen "under no law except its type"; DESIGN CHOICE, safe, log
entry 4). -/
def freeAnswers (n : Nat) : Env where
  interop := Config.freeInterop n
  allocOk := Config.freeAllocOk n
  wipeSched := ⟨Config.freeScheduleWipeOk n, Config.freeSchedulePattern n⟩
  wipeKey := ⟨Config.freeKeyWipeOk n, Config.freeKeyPattern n⟩

/-- The constraints of R261: `alloc_ok` is true unless ALLOC_CAN_FAIL, and both `ok` are true unless WIPE_CAN_FAIL
(DEDUCED, safe, log entry 6). -/
def constrained (p : Params) (e : Env) : Env :=
  { e with
    allocOk := e.allocOk || !p.allocCanFail
    wipeSched := { e.wipeSched with ok := e.wipeSched.ok || !p.wipeCanFail }
    wipeKey := { e.wipeKey with ok := e.wipeKey.ok || !p.wipeCanFail } }

/-- The record of answers the next command reads (R261). -/
def State.env (s : State) : Env := constrained s.params (s.answers.headD (freeAnswers s.draws))

/-- ICODE, cut to ICW bits: a function of the key bytes alone (R8, R263; DESIGN CHOICE, safe, log entry 5). -/
def icode (p : Params) (key : Block) : Nat := ((p.codes.lookup key).getD (Config.icode key)) % 2 ^ p.icw

/-- `IntegrityOK() = (ICODE(K) == IC)` (R209). -/
def State.integrityOk (s : State) : Bool := icode s.params s.k == s.ic

end Sys2Proof.Machine
end

