-- ==== Sys2Proof/Machine/Ops.lean ====
section
/-! DEFINITION. The operations the commands share: the common prologue and the write of RESULT and LASTOP
(45_lifecycle_commands.md R200, 30_encoding.md R99), taking the sticky fault and leaving it by reset (60_exceptions.md
R246, 70_reset_and_hazards.md R281), and the wipes (R207, R208). -/

namespace Sys2Proof.Machine

/-- LASTOP is written by every command, whatever its outcome (R39, R200 line 1). -/
def State.logOp (s : State) (opc : BitVec 4) : State := { s with lastop := opc }

/-- RESULT is written by every command (R39, R240). -/
def State.report (s : State) (c : ResultCode) : State := { s with result := c }

/-- "Each command execution takes one record of answers" (R261): the record is used up. -/
def State.useAnswers (s : State) : State := { s with answers := s.answers.tail, draws := s.draws + 1 }

def State.setRdy (s : State) (b : Bool) : State := { s with rdy := b }

def State.setMasked (s : State) (b : Bool) : State := { s with masked := b }

/-- `DATA_OUT <- v` (R23). -/
def State.writeDataOut (s : State) (v : Block) : State := { s with dataOut := v }

/-- `K <- KEY_IN; IC <- ICODE(K)` (R202). -/
def State.installKey (s : State) : State := { s with k := s.keyIn, ic := icode s.params s.keyIn }

/-- `SCHED <- v; SHELD <- 1` (R149). -/
def State.holdSchedule (s : State) (v : Schedule) : State := { s with sched := v, sheld := true }

/-- `SCHED <- v; SHELD <- 0`: overwritten, then released (R207). -/
def State.releaseSchedule (s : State) (v : Schedule) : State := { s with sched := v, sheld := false }

/-- `K <- v` alone: the wipe of the key register (R208) and the corruption event (R268). -/
def State.overwriteKey (s : State) (v : Block) : State := { s with k := v }

/-- The state changes of a successful CREATE (R201). -/
def State.bindObject (s : State) : State :=
  { s with
    bound := true
    keysize := BitVec.ofNat 8 Config.keyLen
    blksize := BitVec.ofNat 8 Config.blkLen
    variant := Config.variantTag
    masked := false
    rdy := false }

/-- The last two lines of state changes of DESTROY (R206). -/
def State.unbindObject (s : State) : State :=
  { s with ic := 0, masked := false, keysize := 0, blksize := 0, variant := 0, rdy := false, bound := false }

/-- "Trap entry", the one shared operation: `fault RES_NOT_READY` sets the sticky FAULT and nothing else; no context is
saved and control goes nowhere (R240, R246). -/
def State.raiseFault (s : State) : State × ResultCode := ({ s with fault := true }, .notReady)

/-- The only way back from FAULT: the reset event gives every piece of the spec's state its value of 10_state.md R46
(R281). The parameters are no state (R44), and the answers and inputs still to come are the environment's and the
host's. -/
def State.onReset (s : State) : State :=
  { State.reset with params := s.params, answers := s.answers, draws := s.draws, inputs := s.inputs }

/-- What a wipe leaves in the store: the pattern, or zeros when the primitive could not guarantee the overwrite (R264). -/
def Wipe.contents {n : Nat} (w : Wipe n) : Vector Byte n := if w.ok then w.pat else zeroBytes n

/-- `DeleteKeys(wipe)`: overwrite SCHED, release it, and say whether the wipe reported failure (R207). -/
def deleteSchedule (w : Wipe 176) (s : State) : State × Bool := (s.releaseSchedule w.contents, !w.ok)

/-- `WipeKey(wipe)` (R208). -/
def wipeKey (w : Wipe 16) (s : State) : State × Bool := (s.overwriteKey w.contents, !w.ok)

/-- DeleteKeys "only when SHELD = 1" (R207); nothing fails where nothing is held. -/
def deleteIfHeld (w : Wipe 176) (s : State) : State × Bool := if s.sheld then deleteSchedule w s else (s, false)

/-- RES_WIPE_WARN when a wipe that ran reported failure, else RES_OK (R242). -/
def warnIf (failed : Bool) : ResultCode := if failed then .wipeWarn else .ok

/-- Tests 2, 4 and 5 of the common prologue, in R200's order; test 3, the legality of the word, is `decode`. The code
that ends the command, or none. -/
def prologue (opc : BitVec 4) (kobj : Nat) (s : State) : Option ResultCode :=
  if s.fault then some .faulted
  else if kobj ≠ 0 then some .nullRef
  else if opc ≠ 1 ∧ s.bound = false then some .nullRef
  else none

/-- One command on a legal word (R99): LASTOP, the prologue, then the command's own function with the environment's
answers, whose result code goes to RESULT. -/
def runCommand (opc : BitVec 4) (kobj : Nat) (body : Env → State → State × ResultCode) (s : State) : State :=
  let t := s.useAnswers.logOp opc
  match prologue opc kobj s with
  | some c => t.report c
  | none =>
    let r := body s.env t
    r.1.report r.2

/-- One command on an illegal word: LASTOP records bits 3:0 and nothing is executed; FAULT is tested first (R94, R99,
R245). -/
def illegalCommand (w : BusWord) (s : State) : State :=
  (s.useAnswers.logOp (opcField w)).report (if s.fault then .faulted else .illegalCmd)

end Sys2Proof.Machine
end

