-- ==== Sys2Proof/Machine/KeyExpansion.lean ====
section
/-! DEFINITION. The key-expansion engine (42_key_expansion.md) and ScheduleKeys, the capability that runs it inside
SET_KEY. -/

namespace Sys2Proof.Machine

/-- ROTWORD: rotate left by one byte (R143). -/
def rotWord (a : Word4) : Word4 := ⟨a.b1, a.b2, a.b3, a.b0⟩

/-- SUBWORD: each byte through the forward table (R144). -/
def subWord (a : Word4) : Word4 := ⟨sbox a.b0, sbox a.b1, sbox a.b2, sbox a.b3⟩

/-- ADDRC: byte 0 XORed with `RC[i/4 - 1]` (R145). -/
def addRc (a : Word4) (i : Nat) : Word4 := { a with b0 := a.b0 ^^^ rc (i / 4 - 1) }

/-- The temporary word of word index i, from the word before it (R146, R147). -/
def tempWord (prev : Word4) (i : Nat) : Word4 := if i % 4 = 0 then addRc (subWord (rotWord prev)) i else prev

/-- The four words W(i-4) to W(i-1), all that the loop of R148 reads at word index i. -/
structure Window where
  w0 : Word4
  w1 : Word4
  w2 : Word4
  w3 : Word4
deriving DecidableEq, Repr

/-- One turn of the loop: W(i) = W(i-4) xor T, and the window moves on by one word (R146 to R148). -/
def expandStep (i : Nat) (v : Window) : Window := ⟨v.w1, v.w2, v.w3, xorWord v.w0 (tempWord v.w3 i)⟩

/-- The window W(j) to W(j+3): after j turns of the ascending loop, whose first word index is 4. Words 0 to 3 are the
key (R142, R148). -/
def windowAt (key : Block) : Nat → Window
  | 0 => ⟨column key 0, column key 1, column key 2, column key 3⟩
  | j + 1 => expandStep (j + 4) (windowAt key j)

/-- Schedule word W(i): a word of the key, or the newest word of the window it was computed in, so that computing W(0)
to W(43) takes the turns 4 to 43 and no other (R141, R148). -/
def scheduleWord (key : Block) (i : Nat) : Word4 :=
  if i < 4 then (windowAt key i).w0 else (windowAt key (i - 3)).w3

/-- KeyExpansion: `SCHED[4i + j]` is byte j of W(i) (R141, R148). -/
def keyExpansion (key : Block) : Schedule :=
  Vector.ofFn fun n => byteOf (scheduleWord key (n.val / 4)) ⟨n.val % 4, by omega⟩

/-- ScheduleKeys: the integrity check, the allocation, the wipe of an older schedule, the expansion, in this order
(R149). -/
def scheduleKeys (e : Env) (s : State) : State × ResultCode :=
  if !s.integrityOk then (s, .integrity)
  else if !e.allocOk then (s, .noMemory)
  else
    let r := deleteIfHeld e.wipeSched s
    (r.1.holdSchedule (keyExpansion r.1.k), warnIf r.2)

end Sys2Proof.Machine
end

