-- ==== Sys2Proof/Machine/Encrypt.lean ====
section
/-! DEFINITION. The round-transform engine, forward path, and the command ENCRYPT (43_encrypt.md). -/

namespace Sys2Proof.Machine

/-- ADDROUNDKEY(S, r) for r = 0 to 10 (R161). -/
def addRoundKey (sch : Schedule) (r : Fin 11) (s : Block) : Block :=
  Vector.ofFn fun n => s[n] ^^^ sch[16 * r.val + n.val]

/-- SUBBYTES (R162). -/
def subBytes (s : Block) : Block := s.map sbox

/-- SHIFTROWS: entry (r, c) is the entry `(r, (c + r) mod 4)` of the operand (R163). -/
def shiftRows (s : Block) : Block :=
  Vector.ofFn fun n => s[n.val % 4 + 4 * ((n.val / 4 + n.val % 4) % 4)]

/-- One column of MIXCOLUMNS (R164; the arrangement of the constants is G4, log entry 1). -/
def mixColumn (a : Word4) : Word4 where
  b0 := xtime a.b0 ^^^ mul3 a.b1 ^^^ a.b2 ^^^ a.b3
  b1 := a.b0 ^^^ xtime a.b1 ^^^ mul3 a.b2 ^^^ a.b3
  b2 := a.b0 ^^^ a.b1 ^^^ xtime a.b2 ^^^ mul3 a.b3
  b3 := mul3 a.b0 ^^^ a.b1 ^^^ a.b2 ^^^ xtime a.b3

/-- MIXCOLUMNS: each column on its own (R164). -/
def mixColumns (s : Block) : Block := ofColumns fun c => mixColumn (column s c)

/-- One of the nine full rounds (R165). -/
def forwardRound (sch : Schedule) (s : Block) (r : Fin 11) : Block :=
  addRoundKey sch r (mixColumns (shiftRows (subBytes s)))

/-- EncryptBlock: round key 0, nine full rounds ascending, a final round without column mixing (R165). -/
def encryptBlock (sch : Schedule) (inp : Block) : Block :=
  let s := ([1, 2, 3, 4, 5, 6, 7, 8, 9] : List (Fin 11)).foldl (forwardRound sch) (addRoundKey sch 0 inp)
  addRoundKey sch 10 (shiftRows (subBytes s))

/-- The tests and the effect ENCRYPT and DECRYPT share: length, readiness (the sticky fault), integrity, then DATA_OUT
(R166, R185). -/
def blockCommand (f : Schedule → Block → Block) (len : Nat) (_ : Env) (s : State) : State × ResultCode :=
  if len ≠ Config.blkLen then (s, .invalidLength)
  else if !s.rdy then s.raiseFault
  else if !s.integrityOk then (s.setRdy false, .integrity)
  else (s.writeDataOut (f s.sched s.dataIn), .ok)

/-- ENCRYPT (R166). -/
def execEncrypt (kobj len : Nat) (s : State) : Host.Outcome State Fault Refusal :=
  .next (runCommand 0x3 kobj (blockCommand encryptBlock len) s)

end Sys2Proof.Machine
end

