-- ==== Sys2Proof/Machine/Decrypt.lean ====
section
/-! DEFINITION. The round-transform engine, inverse path, and the command DECRYPT (44_decrypt.md). -/

namespace Sys2Proof.Machine

/-- INVSHIFTROWS: entry (r, c) is the entry `(r, (c - r) mod 4)` of the operand (R181). -/
def invShiftRows (s : Block) : Block :=
  Vector.ofFn fun n => s[n.val % 4 + 4 * ((n.val / 4 + 4 - n.val % 4) % 4)]

/-- INVSUBBYTES (R182). -/
def invSubBytes (s : Block) : Block := s.map invSbox

/-- One column of INVMIXCOLUMNS (R183; the arrangement of the constants is G4, log entry 1). -/
def invMixColumn (a : Word4) : Word4 where
  b0 := mulE a.b0 ^^^ mulB a.b1 ^^^ mulD a.b2 ^^^ mul9 a.b3
  b1 := mul9 a.b0 ^^^ mulE a.b1 ^^^ mulB a.b2 ^^^ mulD a.b3
  b2 := mulD a.b0 ^^^ mul9 a.b1 ^^^ mulE a.b2 ^^^ mulB a.b3
  b3 := mulB a.b0 ^^^ mulD a.b1 ^^^ mul9 a.b2 ^^^ mulE a.b3

/-- INVMIXCOLUMNS: each column on its own (R183). -/
def invMixColumns (s : Block) : Block := ofColumns fun c => invMixColumn (column s c)

/-- One of the nine inverse rounds: the round key is mixed in before INVMIXCOLUMNS (R184). -/
def inverseRound (sch : Schedule) (s : Block) (r : Fin 11) : Block :=
  invMixColumns (addRoundKey sch r (invSubBytes (invShiftRows s)))

/-- DecryptBlock: round key 10, nine rounds descending, a final round with round key 0 (R184). -/
def decryptBlock (sch : Schedule) (inp : Block) : Block :=
  let s := ([9, 8, 7, 6, 5, 4, 3, 2, 1] : List (Fin 11)).foldl (inverseRound sch) (addRoundKey sch 10 inp)
  addRoundKey sch 0 (invSubBytes (invShiftRows s))

/-- DECRYPT (R185). -/
def execDecrypt (kobj len : Nat) (s : State) : Host.Outcome State Fault Refusal :=
  .next (runCommand 0x4 kobj (blockCommand decryptBlock len) s)

end Sys2Proof.Machine
end

