-- ==== Sys2Proof/Machine/Lifecycle.lean ====
section
/-! DEFINITION. The key lifecycle commands CREATE, SET_KEY, SET_MASK, UNMASK, DELETE_KEYS and DESTROY
(45_lifecycle_commands.md). Each command function runs after the common prologue and returns its result code. -/

namespace Sys2Proof.Machine

/-- `Create(env)` (R201). It samples `env.interop`, which "has no effect" (R266). -/
def createObject (_ : Env) (s : State) : State × ResultCode :=
  if s.bound then (s, .alreadyBound) else (s.bindObject, .ok)

/-- `SetKey(len, env)` (R202): RDY falls first, whatever follows. -/
def setKey (len : Nat) (e : Env) (s : State) : State × ResultCode :=
  let s0 := s.setRdy false
  if len ≠ Config.keyLen then (s0, .invalidLength)
  else
    let r := scheduleKeys e s0.installKey
    if r.2 = .integrity ∨ r.2 = .noMemory then r
    else if !r.1.integrityOk then (r.1, .integrity)
    else (r.1.setRdy true, r.2)

/-- `SetMask()` (R203). -/
def setMaskFlag (_ : Env) (s : State) : State × ResultCode := (s.setMasked true, .ok)

/-- `Unmask()` (R204). -/
def clearMaskFlag (_ : Env) (s : State) : State × ResultCode := (s.setMasked false, .ok)

/-- `DeleteKeysCmd(env)` (R205). -/
def deleteKeysCmd (e : Env) (s : State) : State × ResultCode :=
  let r := deleteIfHeld e.wipeSched (s.setRdy false)
  (r.1, warnIf r.2)

/-- `Destroy(env)` (R206). -/
def destroyObject (e : Env) (s : State) : State × ResultCode :=
  let r1 := deleteIfHeld e.wipeSched s
  let r2 := wipeKey e.wipeKey r1.1
  (r2.1.unbindObject, warnIf (r1.2 || r2.2))

/-- CREATE (R201). -/
def execCreate (kobj : Nat) (s : State) : Host.Outcome State Fault Refusal :=
  .next (runCommand 0x1 kobj createObject s)

/-- SET_KEY (R202). -/
def execSetKey (kobj len : Nat) (s : State) : Host.Outcome State Fault Refusal :=
  .next (runCommand 0x2 kobj (setKey len) s)

/-- SET_MASK (R203). -/
def execSetMask (kobj : Nat) (s : State) : Host.Outcome State Fault Refusal :=
  .next (runCommand 0x5 kobj setMaskFlag s)

/-- UNMASK (R204). -/
def execUnmask (kobj : Nat) (s : State) : Host.Outcome State Fault Refusal :=
  .next (runCommand 0x6 kobj clearMaskFlag s)

/-- DELETE_KEYS (R205). -/
def execDeleteKeys (kobj : Nat) (s : State) : Host.Outcome State Fault Refusal :=
  .next (runCommand 0x7 kobj deleteKeysCmd s)

/-- DESTROY (R206). -/
def execDestroy (kobj : Nat) (s : State) : Host.Outcome State Fault Refusal :=
  .next (runCommand 0x8 kobj destroyObject s)

end Sys2Proof.Machine
end

