-- ==== Sys2Proof/Machine/Dispatch.lean ====
section
/-! DEFINITION. One arm per command. -/

namespace Sys2Proof.Machine

def exec (i : Instr) (s : State) : Host.Outcome State Fault Refusal :=
  match i with
  | .create kobj => Sys2Proof.Machine.execCreate kobj s
  | .setKey kobj len => Sys2Proof.Machine.execSetKey kobj len s
  | .encrypt kobj len => Sys2Proof.Machine.execEncrypt kobj len s
  | .decrypt kobj len => Sys2Proof.Machine.execDecrypt kobj len s
  | .setMask kobj => Sys2Proof.Machine.execSetMask kobj s
  | .unmask kobj => Sys2Proof.Machine.execUnmask kobj s
  | .deleteKeys kobj => Sys2Proof.Machine.execDeleteKeys kobj s
  | .destroy kobj => Sys2Proof.Machine.execDestroy kobj s

end Sys2Proof.Machine
end

