-- ==== Sys2Proof/Machine/Bus.lean ====
section
/-! DEFINITION. The host port: bus reads and writes of the register window (20_memory.md R62, R63, R66, R70), the reset
event (70_reset_and_hazards.md R281) and the corruption event (60_exceptions.md R268). -/

namespace Sys2Proof.Machine

/-- The bus's answer to the input just handled. -/
def State.respond (s : State) (r : Response) : State := { s with response := r }

/-- `BusRead` of a register; it changes no state (R62). -/
def busRead (r : Reg) (s : State) : BusWord :=
  match r with
  | .cmd => 0
  | .status => s.status
  | .flags => s.flags
  | .info => s.info
  | .keyIn _ => 0
  | .dataIn w => pack s.dataIn w
  | .dataOut w => pack s.dataOut w

/-- The effect of a write to CMD: `Execute(w, env)` (R99). -/
def execute (w : BusWord) (s : State) : Host.Outcome State Fault Refusal :=
  match decode w with
  | .ok i => exec i s
  | .error _ => .next (illegalCommand w s)

/-- `BusWrite(off, v)` at a register (R63): "ignored" means that the write completes and changes nothing. -/
def busWrite (r : Reg) (v : BusWord) (s : State) : Host.Outcome State Fault Refusal :=
  match r with
  | .cmd => execute v s
  | .keyIn w => .next { s with keyIn := unpack s.keyIn w v }
  | .dataIn w => .next { s with dataIn := unpack s.dataIn w v }
  | .status => .next s
  | .flags => .next s
  | .info => .next s
  | .dataOut _ => .next s

/-- `Corrupt(k')` if ADMIT_CORRUPTION; otherwise the event does not exist (R268; DESIGN CHOICE, safe, log
entry 7). -/
def corruptKey (k' : Block) (s : State) : Host.Outcome State Fault Refusal :=
  if s.params.admitCorruption then .next (s.overwriteKey k') else .fault .corruptionNotAdmitted

/-- One input takes effect completely (R70). An access at an offset that is no multiple of 4, or of another width, is
refused with a bus error and changes nothing (R66). -/
def deliver (x : Input) (s : State) : Host.Outcome State Fault Refusal :=
  match x with
  | .read off =>
    match regAt off with
    | some r => .next (s.respond (.value (busRead r s)))
    | none => .next (s.respond .busError)
  | .write off v =>
    match regAt off with
    | some r => busWrite r v (s.respond .done)
    | none => .next (s.respond .busError)
  | .oddRead _ _ => .next (s.respond .busError)
  | .oddWrite _ _ => .next (s.respond .busError)
  | .reset => .next s.onReset
  | .corrupt k' => corruptKey k' (s.respond .none)

/-- The first pending input is taken up. -/
def State.withInputs (s : State) (rest : List Input) : State := { s with inputs := rest }

/-- One step: the next input takes effect; without one the core is idle and "keeps all its state" (R20, R273). -/
def takeInput (s : State) : Host.Outcome State Fault Refusal :=
  match s.inputs with
  | [] => .next s
  | x :: rest => deliver x (s.withInputs rest)

/-- The input that makes the core execute a table word: its write to CMD (R26, R63). -/
def commandInput (nbits w : Nat) : Input := .write Reg.cmd.offset (tableWord nbits w)

end Sys2Proof.Machine
end

