-- ==== Sys2Proof/Machine/Step.lean ====
section
/-! DEFINITION. The step of the machine, and the input that makes its next step run a given command word. -/

namespace Sys2Proof.Machine

/-- One step of the core: one input (R20, R70). -/
def step (s : State) : Host.Outcome State Fault Refusal := takeInput s

/-- The state whose very next step runs the table word: the write of it to CMD comes before the inputs already
pending. -/
def State.withFetchWord (s : State) (nbits w : Nat) : State := { s with inputs := commandInput nbits w :: s.inputs }

end Sys2Proof.Machine
end

