-- ==== Sys2Proof/Machine/Script.lean ====
section
/-! DEFINITION. The host-script notation and its pseudo-instructions (30_encoding.md R97, R98), as lists of inputs. -/

namespace Sys2Proof.Machine.Script

/-- `WR reg, value` (R97). -/
def wr (r : Reg) (v : BusWord) : List Input := [.write r.offset v]

/-- `RD reg` (R97). -/
def rd (r : Reg) : List Input := [.read r.offset]

/-- `CMD mnemonic [len] [kobj]`: a write of the command's word to CMD (R97). -/
def cmd (i : Instr) : List Input := wr .cmd (encode i)

/-- The four words of a buffer, word 0 first. -/
def words : List (Fin 4) := [0, 1, 2, 3]

/-- `LOADKEY b0 … b15` (R98). -/
def loadKey (b : Block) : List Input := words.flatMap fun w => wr (.keyIn w) (pack b w)

/-- `LOADBLK b0 … b15` (R98). -/
def loadBlk (b : Block) : List Input := words.flatMap fun w => wr (.dataIn w) (pack b w)

/-- `READBLK` (R98). -/
def readBlk : List Input := words.flatMap fun w => rd (.dataOut w)

/-- `CLEARKEY` (R98). -/
def clearKey : List Input := words.flatMap fun w => wr (.keyIn w) 0

/-- `RESET`, "not a bus access" (R98). -/
def reset : List Input := [.reset]

end Sys2Proof.Machine.Script
end

