-- ==== Sys2Proof/Safety.lean ====
section
/-! DEFINITION. The terms the claims are stated in: the lifecycle of the key object (10_state.md R41), the invariants of
R40, illegal words as R94 writes them, the first result code of R245, and the write every command makes. -/

namespace Sys2Proof.Machine

/-- What every command writes whatever its outcome, and nothing else: LASTOP, RESULT, and in the model the used-up
record of answers (R39, R261). -/
def State.concluded (s : State) (opc : BitVec 4) (c : ResultCode) : State :=
  { s with lastop := opc, result := c, answers := s.answers.tail, draws := s.draws + 1 }

/-- The lifecycle states of R41. -/
inductive Lifecycle where
  | unbound | empty | keyed | faulted
deriving DecidableEq, Repr

/-- The lifecycle state over (BOUND, RDY), with FAULT as an overlay (R41). -/
def State.lifecycle (s : State) : Lifecycle :=
  if s.fault then .faulted else if !s.bound then .unbound else if s.rdy then .keyed else .empty

/-- The transitions of R41: where a command that ended with a code leaves the lifecycle. A code of the prologue leaves it
where it is, and so does every command not listed. -/
def nextLifecycle (i : Instr) (c : ResultCode) (l : Lifecycle) : Lifecycle :=
  match i, c with
  | .create _, .ok => .empty
  | .setKey _ _, .ok => .keyed
  | .setKey _ _, .wipeWarn => .keyed
  | .setKey _ _, .invalidLength => .empty
  | .setKey _ _, .integrity => .empty
  | .setKey _ _, .noMemory => .empty
  | .encrypt _ _, .integrity => .empty
  | .encrypt _ _, .notReady => .faulted
  | .decrypt _ _, .integrity => .empty
  | .decrypt _ _, .notReady => .faulted
  | .deleteKeys _, .ok => .empty
  | .deleteKeys _, .wipeWarn => .empty
  | .destroy _, .ok => .unbound
  | .destroy _, .wipeWarn => .unbound
  | _, _ => l

/-- R40 clauses 1 and 2, the constant INFO of R29 and R34, and the width of the integrity code (R8, R32). -/
structure Inv (s : State) : Prop where
  rdy_sheld : s.rdy = true → s.sheld = true
  sheld_bound : s.sheld = true → s.bound = true
  masked_bound : s.masked = true → s.bound = true
  unbound_clear : s.bound = false → s.info = 0 ∧ s.flags = 0 ∧ s.ic = 0
  bound_info : s.bound = true → s.keysize = 16 ∧ s.blksize = 16 ∧ s.variant = 1
  width_pos : 1 ≤ s.params.icw
  code_width : s.ic < 2 ^ s.params.icw

/-- R40 clause 3 where the environment has not corrupted K: while RDY = 1 the schedule and the integrity code are those
of the key register. -/
def ScheduleCurrent (s : State) : Prop :=
  s.rdy = true → s.sched = keyExpansion s.k ∧ s.ic = icode s.params s.k

/-- `W(i) = (SCHED[4i], SCHED[4i+1], SCHED[4i+2], SCHED[4i+3])` (R141). -/
def schedWord (sch : Schedule) (i : Fin 44) : Word4 :=
  ⟨sch[4 * i.val], sch[4 * i.val + 1], sch[4 * i.val + 2], sch[4 * i.val + 3]⟩

/-- A command word is illegal (R94, `Illegal(w)` of R99). -/
def IllegalWord (w : BusWord) : Prop :=
  w.extractLsb' 16 16 ≠ 0 ∨ w.extractLsb' 0 4 = 0 ∨ 9 ≤ (w.extractLsb' 0 4).toNat ∨
    (w.extractLsb' 0 4 ∈ [(1 : BitVec 4), 5, 6, 7, 8] ∧ w.extractLsb' 8 8 ≠ 0)

/-- The priority list of R245, lines 5 to 12, for a command that passed the prologue. -/
def firstCodeOf (i : Instr) (s : State) : ResultCode :=
  match i with
  | .create _ => if s.bound then .alreadyBound else .ok
  | .setKey _ len =>
    if len ≠ 16 then .invalidLength
    else if s.installKey.integrityOk = false then .integrity
    else if s.env.allocOk = false then .noMemory
    else if s.installKey.integrityOk = false then .integrity
    else if s.sheld ∧ s.env.wipeSched.ok = false then .wipeWarn
    else .ok
  | .encrypt _ len =>
    if len ≠ 16 then .invalidLength
    else if s.rdy = false then .notReady
    else if s.integrityOk = false then .integrity
    else .ok
  | .decrypt _ len =>
    if len ≠ 16 then .invalidLength
    else if s.rdy = false then .notReady
    else if s.integrityOk = false then .integrity
    else .ok
  | .setMask _ => .ok
  | .unmask _ => .ok
  | .deleteKeys _ => if s.sheld ∧ s.env.wipeSched.ok = false then .wipeWarn else .ok
  | .destroy _ =>
    if (s.sheld ∧ s.env.wipeSched.ok = false) ∨ s.env.wipeKey.ok = false then .wipeWarn else .ok

/-- The whole priority list of R245: the first condition that holds gives the code of the command word. -/
def firstCode (w : BusWord) (s : State) : ResultCode :=
  if s.fault then .faulted
  else match decode w with
    | .error _ => .illegalCmd
    | .ok i =>
      if i.kobj ≠ 0 then .nullRef
      else if i.opcode ≠ 1 ∧ s.bound = false then .nullRef
      else firstCodeOf i s

/-- Commands one after another, stopping at the first that gives no next state. -/
def runCommands : List Instr → State → Host.Outcome State Fault Refusal
  | [], s => .next s
  | i :: is, s =>
    match exec i s with
    | .next t => runCommands is t
    | .fault f => .fault f
    | .refused r => .refused r

/-- A 32-bit bus access at an aligned offset, the only supported one (R66). -/
def Input.supported : Input → Bool
  | .read off => decide (off.toNat % 4 = 0)
  | .write off _ => decide (off.toNat % 4 = 0)
  | .oddRead _ _ => false
  | .oddWrite _ _ => false
  | .reset => false
  | .corrupt _ => false

/-- A bus access of any kind. -/
def Input.isAccess : Input → Bool
  | .read _ => true
  | .write _ _ => true
  | .oddRead _ _ => true
  | .oddWrite _ _ => true
  | .reset => false
  | .corrupt _ => false

/-- The corruption event (R268). -/
def Input.isCorruption : Input → Bool
  | .read _ => false
  | .write _ _ => false
  | .oddRead _ _ => false
  | .oddWrite _ _ => false
  | .reset => false
  | .corrupt _ => true

/-- The command an input makes the core execute: a write of a legal word to CMD (R26, R99). -/
def Input.command : Input → Option Instr
  | .read _ => none
  | .write off v => if off = 0 then (decode v).toOption else none
  | .oddRead _ _ => none
  | .oddWrite _ _ => none
  | .reset => none
  | .corrupt _ => none

/-- Key and plaintext of the known-answer vector (95_test_vectors.md V1). -/
def knownKey : Block := #v[0x00, 0x01, 0x02, 0x03, 0x04, 0x05, 0x06, 0x07, 0x08, 0x09, 0x0A, 0x0B, 0x0C, 0x0D, 0x0E, 0x0F]

/-- The plaintext of V1. -/
def knownPlain : Block := #v[0x00, 0x11, 0x22, 0x33, 0x44, 0x55, 0x66, 0x77, 0x88, 0x99, 0xAA, 0xBB, 0xCC, 0xDD, 0xEE, 0xFF]

/-- The ciphertext of V1. -/
def knownCipher : Block := #v[0x69, 0xC4, 0xE0, 0xD8, 0x6A, 0x7B, 0x04, 0x30, 0xD8, 0xCD, 0xB7, 0x80, 0x70, 0xB4, 0xC5, 0x5A]

end Sys2Proof.Machine
end

