-- ==== Sys2Proof/Certificates/Slice0/Obligations.lean ====
section
/-! DEFINITION. The statements for the provers. Each says which rules of spec/ it formalises. Where a record update
`{ s.concluded opc c with … }` stands, it is the frame too: every component of the state that is not named keeps its
value, and `concluded` writes LASTOP, RESULT and the used-up answers only. -/

open Sys2Proof Sys2Proof.Machine

/-! ## Encoding -/

/-- The usual words of R93, and words with operands in every field, decode to their commands. -/
def Obligations.SampleWordsDecode : Prop :=
  decode 0x00000001 = .ok (.create 0) ∧ decode 0x00001002 = .ok (.setKey 0 16)
    ∧ decode 0x00001003 = .ok (.encrypt 0 16) ∧ decode 0x00001004 = .ok (.decrypt 0 16)
    ∧ decode 0x00000005 = .ok (.setMask 0) ∧ decode 0x00000006 = .ok (.unmask 0)
    ∧ decode 0x00000007 = .ok (.deleteKeys 0) ∧ decode 0x00000008 = .ok (.destroy 0)
    ∧ decode 0x00001802 = .ok (.setKey 0 24) ∧ decode 0x0000FF13 = .ok (.encrypt 1 255)
    ∧ decode 0x000000F1 = .ok (.create 15) ∧ decode 0x00000000 = .error .unassignedOpcode
    ∧ decode 0x00001005 = .error .nonzeroLength ∧ decode 0x80001003 = .error .reservedBits

/-- R90, R91, R93: decoding the word of a well-formed command gives it back, with every value of KOBJ and LEN. -/
def Obligations.DecodeOfEncode : Prop :=
  ∀ i : Instr, i.wellFormed = true → decode (encode i) = .ok i

/-- R90, R91, R93: each command has one word, the one it decodes from, so no bit of a legal word is dropped. -/
def Obligations.EncodeOfDecode : Prop :=
  ∀ (w : BusWord) (i : Instr), decode w = .ok i → encode i = w ∧ i.wellFormed = true

/-- R93: a word encodes a command exactly when `(w & mask) == match`, and its KOBJ and LEN bits are the pattern
column's `k` and `l` bits; the usual words. -/
def Obligations.DecodeMatchesOpcodeMap : Prop :=
  (∀ w : BusWord,
    let kobj : Nat := (w.extractLsb' 4 4).toNat
    let len : Nat := (w.extractLsb' 8 8).toNat
    (decode w = .ok (.create kobj) ↔ w &&& 0xFFFFFF0F = 0x00000001)
    ∧ (decode w = .ok (.setKey kobj len) ↔ w &&& 0xFFFF000F = 0x00000002)
    ∧ (decode w = .ok (.encrypt kobj len) ↔ w &&& 0xFFFF000F = 0x00000003)
    ∧ (decode w = .ok (.decrypt kobj len) ↔ w &&& 0xFFFF000F = 0x00000004)
    ∧ (decode w = .ok (.setMask kobj) ↔ w &&& 0xFFFFFF0F = 0x00000005)
    ∧ (decode w = .ok (.unmask kobj) ↔ w &&& 0xFFFFFF0F = 0x00000006)
    ∧ (decode w = .ok (.deleteKeys kobj) ↔ w &&& 0xFFFFFF0F = 0x00000007)
    ∧ (decode w = .ok (.destroy kobj) ↔ w &&& 0xFFFFFF0F = 0x00000008)
    ∧ ∀ i, decode w = .ok i → i.kobj = kobj ∧ i.lenOperand = len)
  ∧ [Instr.create 0, .setKey 0 16, .encrypt 0 16, .decrypt 0 16, .setMask 0, .unmask 0, .deleteKeys 0, .destroy 0].map
      encode = [0x00000001, 0x00001002, 0x00001003, 0x00001004, 0x00000005, 0x00000006, 0x00000007, 0x00000008]

/-- R94: which words are illegal, and that an illegal word executes nothing: RES_ILLEGAL_CMD (RES_FAULTED while FAULT is
set), LASTOP = w[3:0], and no other change, whatever KOBJ and BOUND are. -/
def Obligations.IllegalWordExecutesNothing : Prop :=
  (∀ w : BusWord, (∃ r, decode w = .error r) ↔ IllegalWord w)
  ∧ ∀ (w : BusWord) (s : State), IllegalWord w →
      execute w s = .next (s.concluded (w.extractLsb' 0 4) (if s.fault then .faulted else .illegalCmd))

/-! ## The multiplier, the tables and the transforms -/

/-- R111: XTIME and its corner cases. -/
def Obligations.XtimeDoublesAndReduces : Prop :=
  (∀ x : Byte, xtime x = (x <<< 1) ^^^ (if x.getLsbD 7 then 0x1B else 0x00))
  ∧ xtime 0x00 = 0x00 ∧ xtime 0x7F = 0xFE ∧ xtime 0x80 = 0x1B ∧ xtime 0xFF = 0xE5 ∧ xtime 0x8D = 0x01
  ∧ xtime 0x57 = 0xAE ∧ xtime 0xAE = 0x47

/-- R112 to R116: the five other multiplications as composed doublings, with the corner cases and examples. -/
def Obligations.MultipliersComposeDoublings : Prop :=
  (∀ x : Byte,
    mul3 x = xtime x ^^^ x
    ∧ mul9 x = xtime (xtime (xtime x)) ^^^ x
    ∧ mulB x = xtime (xtime (xtime x)) ^^^ xtime x ^^^ x
    ∧ mulD x = xtime (xtime (xtime x)) ^^^ xtime (xtime x) ^^^ x
    ∧ mulE x = xtime (xtime (xtime x)) ^^^ xtime (xtime x) ^^^ xtime x)
  ∧ [0x00, 0x01, 0x80, 0xFF, 0x57].map mul3 = ([0x00, 0x03, 0x9B, 0x1A, 0xF9] : List Byte)
  ∧ [0x00, 0x01, 0x80, 0xFF, 0x57].map mul9 = ([0x00, 0x09, 0xEC, 0x46, 0xD9] : List Byte)
  ∧ [0x00, 0x01, 0x80, 0xFF, 0x57].map mulB = ([0x00, 0x0B, 0xF7, 0xA3, 0x77] : List Byte)
  ∧ [0x00, 0x01, 0x80, 0xFF, 0x57].map mulD = ([0x00, 0x0D, 0xDA, 0x97, 0x9E] : List Byte)
  ∧ [0x00, 0x01, 0x80, 0xFF, 0x57].map mulE = ([0x00, 0x0E, 0x41, 0x8D, 0x67] : List Byte)

/-- R118: each multiplication is linear over XOR, sends 0 to 0 and is a bijection; the two column identities, and so a
column of four equal bytes is left unchanged in both directions. -/
def Obligations.MultipliersAreLinearBijections : Prop :=
  (∀ m ∈ [xtime, mul3, mul9, mulB, mulD, mulE],
    (∀ a b : Byte, m (a ^^^ b) = m a ^^^ m b) ∧ m 0x00 = 0x00 ∧ Function.Bijective m)
  ∧ (∀ x : Byte, mul3 x ^^^ xtime x = x ∧ xtime x ^^^ mul3 x ^^^ x ^^^ x = x
      ∧ mulE x ^^^ mulB x ^^^ mulD x ^^^ mul9 x = x)
  ∧ ∀ x : Byte, mixColumn ⟨x, x, x, x⟩ = ⟨x, x, x, x⟩ ∧ invMixColumn ⟨x, x, x, x⟩ = ⟨x, x, x, x⟩

/-- R119: the six functions are the general product by their constants. -/
def Obligations.MultipliersAreFieldProducts : Prop :=
  ∀ x : Byte, xtime x = gmul x 0x02 ∧ mul3 x = gmul x 0x03 ∧ mul9 x = gmul x 0x09 ∧ mulB x = gmul x 0x0B
    ∧ mulD x = gmul x 0x0D ∧ mulE x = gmul x 0x0E

/-- R132 to R135: the tables are what R134 constructs: inverse permutations of each other, SBOX without a fixed point
and equal to the affine image of the field inverse, RC the doublings of 01. The printed values, and the construction,
are general knowledge (log entry 1), not the source's. -/
def Obligations.TablesAreTheirConstruction : Prop :=
  (∀ b : Byte, invSbox (sbox b) = b ∧ sbox (invSbox b) = b ∧ sbox b ≠ b)
  ∧ (∀ b : Byte, ∃ y : Byte, (if b = 0 then y = 0 else gmul b y = 1)
      ∧ sbox b = y ^^^ y.rotateLeft 1 ^^^ y.rotateLeft 2 ^^^ y.rotateLeft 3 ^^^ y.rotateLeft 4 ^^^ 0x63)
  ∧ ∀ j : Fin 10, rcTable[j] = xtimes j.val 0x01

/-- R142, R146, R147: round key 0 is the key, and each later word is the word four back XOR the temporary word; the
rules' examples. -/
def Obligations.KeyExpansionRecurrence : Prop :=
  (∀ key : Block,
    (∀ n : Fin 16, (keyExpansion key)[n.val] = key[n])
    ∧ ∀ i : Fin 44, (h : 4 ≤ i.val) →
        schedWord (keyExpansion key) i
          = xorWord (schedWord (keyExpansion key) ⟨i.val - 4, by omega⟩)
              (if i.val % 4 = 0
                then addRc (subWord (rotWord (schedWord (keyExpansion key) ⟨i.val - 1, by omega⟩))) i.val
                else schedWord (keyExpansion key) ⟨i.val - 1, by omega⟩))
  ∧ addRc (subWord (rotWord ⟨0x0C, 0x0D, 0x0E, 0x0F⟩)) 4 = ⟨0xD6, 0xAB, 0x76, 0xFE⟩
  ∧ schedWord (keyExpansion knownKey) 4 = ⟨0xD6, 0xAA, 0x74, 0xFD⟩
  ∧ schedWord (keyExpansion knownKey) 5 = ⟨0xD2, 0xAF, 0x72, 0xFA⟩

/-- R161: ADDROUNDKEY byte by byte, its own inverse, the identity on a zero round key, and the rule's example. -/
def Obligations.AddRoundKeyIsInvolution : Prop :=
  (∀ (sch : Schedule) (r : Fin 11) (s : Block),
    (∀ n : Fin 16, (addRoundKey sch r s)[n] = s[n] ^^^ sch[16 * r.val + n.val])
    ∧ (∀ c : Fin 4, column (addRoundKey sch r s) c
        = xorWord (column s c) (schedWord sch ⟨4 * r.val + c.val, by omega⟩))
    ∧ addRoundKey sch r (addRoundKey sch r s) = s
    ∧ ((∀ n : Fin 16, sch[16 * r.val + n.val] = 0) → addRoundKey sch r s = s))
  ∧ addRoundKey (keyExpansion knownKey) 0 knownPlain
      = #v[0x00, 0x10, 0x20, 0x30, 0x40, 0x50, 0x60, 0x70, 0x80, 0x90, 0xA0, 0xB0, 0xC0, 0xD0, 0xE0, 0xF0]

/-- R162, R182: the byte substitutions look up each byte on its own; INVSUBBYTES undoes SUBBYTES and commutes with
INVSHIFTROWS. The table values are general knowledge (log entry 1). -/
def Obligations.SubBytesInverse : Prop :=
  ∀ s : Block,
    (∀ n : Fin 16, (subBytes s)[n] = sbox s[n] ∧ (invSubBytes s)[n] = invSbox s[n])
    ∧ invSubBytes (subBytes s) = s ∧ subBytes (invSubBytes s) = s
    ∧ invSubBytes (invShiftRows s) = invShiftRows (invSubBytes s)

/-- R163, R181: row r rotates left (right) by r; the two permutation tables; each undoes the other; and the rules'
corner cases and examples. -/
def Obligations.ShiftRowsPermutesAndInverts : Prop :=
  (∀ s : Block,
    (∀ r c : Fin 4, (shiftRows s)[r.val + 4 * c.val] = s[r.val + 4 * ((c.val + r.val) % 4)])
    ∧ shiftRows s = #v[s[0], s[5], s[10], s[15], s[4], s[9], s[14], s[3], s[8], s[13], s[2], s[7], s[12], s[1], s[6], s[11]]
    ∧ (∀ r c : Fin 4, (invShiftRows s)[r.val + 4 * c.val] = s[r.val + 4 * ((c.val + 4 - r.val) % 4)])
    ∧ invShiftRows s = #v[s[0], s[13], s[10], s[7], s[4], s[1], s[14], s[11], s[8], s[5], s[2], s[15], s[12], s[9], s[6], s[3]]
    ∧ invShiftRows (shiftRows s) = s ∧ shiftRows (invShiftRows s) = s)
  ∧ (∀ x : Byte, shiftRows (Vector.replicate 16 x) = Vector.replicate 16 x)
  ∧ shiftRows knownKey = #v[0x00, 0x05, 0x0A, 0x0F, 0x04, 0x09, 0x0E, 0x03, 0x08, 0x0D, 0x02, 0x07, 0x0C, 0x01, 0x06, 0x0B]
  ∧ invShiftRows knownKey = #v[0x00, 0x0D, 0x0A, 0x07, 0x04, 0x01, 0x0E, 0x0B, 0x08, 0x05, 0x02, 0x0F, 0x0C, 0x09, 0x06, 0x03]

/-- R164, R183: each column on its own is multiplied by the circulant matrix, and the two transforms undo each other.
The arrangement of the constants is general knowledge (log entry 1). -/
def Obligations.MixColumnsInverse : Prop :=
  ∀ s : Block,
    (∀ c : Fin 4, column (mixColumns s) c = mixColumn (column s c)
      ∧ column (invMixColumns s) c = invMixColumn (column s c))
    ∧ invMixColumns (mixColumns s) = s ∧ mixColumns (invMixColumns s) = s

/-- R186: decryption undoes encryption and encryption undoes decryption, for every block and any 176 bytes of
schedule, so for every key. -/
def Obligations.BlockRoundTrip : Prop :=
  ∀ sch : Schedule,
    (∀ p : Block, decryptBlock sch (encryptBlock sch p) = p)
    ∧ ∀ c : Block, encryptBlock sch (decryptBlock sch c) = c

/-- R167: EncryptBlock is a bijection on blocks for every schedule. -/
def Obligations.EncryptBlockIsBijective : Prop :=
  ∀ sch : Schedule, Function.Bijective (encryptBlock sch)

/-- V1 and V2 (95_test_vectors.md section 1): the source's one known-answer vector, in both directions. -/
def Obligations.KnownAnswerVector : Prop :=
  encryptBlock (keyExpansion knownKey) knownPlain = knownCipher
  ∧ decryptBlock (keyExpansion knownKey) knownCipher = knownPlain

/-! ## Reset, the window and the step -/

/-- R46: the value of every piece of state after reset, what the three registers read, and the lifecycle state. -/
def Obligations.ResetStateValues : Prop :=
  State.reset.bound = false ∧ State.reset.rdy = false ∧ State.reset.sheld = false ∧ State.reset.fault = false
  ∧ State.reset.result = .ok ∧ State.reset.result.code = 0 ∧ State.reset.lastop = 0 ∧ State.reset.masked = false
  ∧ State.reset.keysize = 0 ∧ State.reset.blksize = 0 ∧ State.reset.variant = 0
  ∧ State.reset.k = Vector.replicate 16 0 ∧ State.reset.ic = 0 ∧ State.reset.sched = Vector.replicate 176 0
  ∧ State.reset.keyIn = Vector.replicate 16 0 ∧ State.reset.dataIn = Vector.replicate 16 0
  ∧ State.reset.dataOut = Vector.replicate 16 0
  ∧ State.reset.status = 0x00000000 ∧ State.reset.flags = 0x00000000 ∧ State.reset.info = 0x00000000
  ∧ State.reset.lifecycle = .unbound

/-- R281: the reset event gives every piece of state its reset value from any state, without consulting the wipe
primitive; every command but CREATE then ends with RES_NULL_REF; and no step but reset clears FAULT. -/
def Obligations.ResetEventErasesAll : Prop :=
  (∀ (s : State) (rest : List Input), s.inputs = .reset :: rest →
    step s = .next { State.reset with params := s.params, answers := s.answers, draws := s.draws, inputs := rest }
    ∧ ∀ t : State, step s = .next t →
        t.lifecycle = .unbound ∧ t.status = 0 ∧ t.flags = 0 ∧ t.info = 0
        ∧ ∀ i : Instr, i.opcode ≠ 1 → exec i t = .next (t.concluded i.opcode .nullRef))
  ∧ ∀ s t : State, s.fault = true → step s = .next t → t.fault = false → s.inputs.head? = some .reset

/-- R62: every register of the window as a 32-bit read returns it; the read changes no state. -/
def Obligations.BusReadValues : Prop :=
  ∀ (s : State) (rest : List Input) (off : BitVec 6), s.inputs = .read off :: rest →
    let after (v : BusWord) : Host.Outcome State Fault Refusal :=
      .next { s with inputs := rest, response := .value v }
    (off = 0x00 → step s = after 0)
    ∧ (off = 0x04 → step s = after
        (bit32 s.bound ||| bit32 s.rdy <<< 1 ||| bit32 s.sheld <<< 2 ||| bit32 s.fault <<< 3
          ||| s.result.code.setWidth 32 <<< 8 ||| s.lastop.setWidth 32 <<< 12))
    ∧ (off = 0x08 → step s = after (bit32 s.masked))
    ∧ (off = 0x0C → step s = after
        (s.keysize.setWidth 32 ||| s.blksize.setWidth 32 <<< 8 ||| s.variant.setWidth 32 <<< 16))
    ∧ ∀ w : Fin 4,
        (off = BitVec.ofNat 6 (0x10 + 4 * w.val) → step s = after 0)
        ∧ (off = BitVec.ofNat 6 (0x20 + 4 * w.val) → step s = after
            (s.dataIn[4 * w.val].setWidth 32 ||| s.dataIn[4 * w.val + 1].setWidth 32 <<< 8
              ||| s.dataIn[4 * w.val + 2].setWidth 32 <<< 16 ||| s.dataIn[4 * w.val + 3].setWidth 32 <<< 24))
        ∧ (off = BitVec.ofNat 6 (0x30 + 4 * w.val) → step s = after
            (s.dataOut[4 * w.val].setWidth 32 ||| s.dataOut[4 * w.val + 1].setWidth 32 <<< 8
              ||| s.dataOut[4 * w.val + 2].setWidth 32 <<< 16 ||| s.dataOut[4 * w.val + 3].setWidth 32 <<< 24))

/-- R63: every 32-bit write of the window. A write to CMD executes the word; a write to KEY_IN or DATA_IN replaces
exactly the four bytes of its word; a write to a read-only register completes and changes nothing. -/
def Obligations.BusWriteEffects : Prop :=
  (∀ (s : State) (rest : List Input) (off : BitVec 6) (v : BusWord), s.inputs = .write off v :: rest →
    let u : State := { s with inputs := rest, response := .done }
    (off = 0x00 → step s = execute v u)
    ∧ (off = 0x04 ∨ off = 0x08 ∨ off = 0x0C → step s = .next u)
    ∧ ∀ w : Fin 4,
        (off = BitVec.ofNat 6 (0x10 + 4 * w.val) → step s = .next { u with keyIn := unpack s.keyIn w v })
        ∧ (off = BitVec.ofNat 6 (0x20 + 4 * w.val) → step s = .next { u with dataIn := unpack s.dataIn w v })
        ∧ (off = BitVec.ofNat 6 (0x30 + 4 * w.val) → step s = .next u))
  ∧ ∀ (x : Block) (w : Fin 4) (v : BusWord) (n : Fin 16),
      (unpack x w v)[n] = if n.val / 4 = w.val then v.extractLsb' (8 * (n.val % 4)) 8 else x[n]

/-- R64: byte 4w+j of a buffer travels in bits 8j+7 : 8j of word w, so a word read back is the word written; the
rule's example. -/
def Obligations.ByteLanesLittleEndian : Prop :=
  (∀ (x : Block) (w j : Fin 4), (pack x w).extractLsb' (8 * j.val) 8 = x[4 * w.val + j.val])
  ∧ (∀ (x : Block) (w : Fin 4) (v : BusWord), pack (unpack x w v) w = v)
  ∧ pack knownKey 0 = 0x03020100

/-- R66: an access of another width, or at an offset that is not a multiple of 4, is answered with a bus error and
changes no state; an aligned 32-bit access never is. -/
def Obligations.UnsupportedAccessRefused : Prop :=
  ∀ (s : State) (x : Input) (rest : List Input), s.inputs = x :: rest → x.isAccess = true →
    (x.supported = false → step s = .next { s with inputs := rest, response := .busError })
    ∧ (x.supported = true → ∃ t, step s = .next t ∧ t.response ≠ .busError)

/-- R26, R99: a step on a write of a legal word to CMD is the decoded command, with the write completed around it; and
that is what `withFetchWord` makes of a command's word. -/
def Obligations.StepRunsDecodedCommand : Prop :=
  (∀ (s : State) (w : BusWord) (i : Instr) (rest : List Input),
    s.inputs = .write 0x00 w :: rest → decode w = .ok i →
      step s = exec i { s with inputs := rest, response := .done })
  ∧ ∀ (s : State) (i : Instr), i.wellFormed = true →
      decodeTableWord 32 (encode i).toNat = some i
      ∧ step (s.withFetchWord 32 (encode i).toNat) = exec i { s with response := .done }

/-- R20, R70, R273 and 93_implementation_defined.md part 1: every input is taken up completely and every command and
access completes; without an input the core keeps all its state. The one stop is the corruption event of an environment
that has none (the model's choice, log entry 7). -/
def Obligations.EveryInputCompletes : Prop :=
  (∀ s : State, s.inputs = [] → step s = .next s)
  ∧ ∀ (s : State) (x : Input) (rest : List Input), s.inputs = x :: rest →
      (x.isCorruption = true → s.params.admitCorruption = false → step s = .fault .corruptionNotAdmitted)
      ∧ (x.isCorruption = false ∨ s.params.admitCorruption = true → ∃ t, step s = .next t ∧ t.inputs = rest)

/-- R27: the fields of STATUS and its reserved bits; a read returns them without side effect, and a write is ignored. -/
def Obligations.StatusFieldLayout : Prop :=
  ∀ s : State,
    (∀ rest : List Input, s.inputs = .read 0x04 :: rest →
      step s = .next { s with inputs := rest, response := .value s.status })
    ∧ (∀ (v : BusWord) (rest : List Input), s.inputs = .write 0x04 v :: rest →
      step s = .next { s with inputs := rest, response := .done })
    ∧ s.status.getLsbD 0 = s.bound ∧ s.status.getLsbD 1 = s.rdy ∧ s.status.getLsbD 2 = s.sheld
    ∧ s.status.getLsbD 3 = s.fault ∧ s.status.extractLsb' 4 4 = 0 ∧ s.status.extractLsb' 8 4 = s.result.code
    ∧ s.status.extractLsb' 12 4 = s.lastop ∧ s.status.extractLsb' 16 16 = 0

/-- R28, R29: FLAGS bit 0 is MASKED and its other bits read 0; INFO reads 0x00011010 while BOUND = 1 and 0 while
BOUND = 0, in every state that meets the invariant. -/
def Obligations.FlagsAndInfoValues : Prop :=
  (∀ s : State, s.flags = if s.masked then 1 else 0)
  ∧ ∀ s : State, Inv s → s.info = if s.bound then 0x00011010 else 0x00000000

/-- R241: the numbers of the ten result codes. -/
def Obligations.ResultCodeNumbers : Prop :=
  [ResultCode.ok, .nullRef, .invalidLength, .integrity, .noMemory, .wipeWarn, .illegalCmd, .alreadyBound, .notReady,
    .faulted].map ResultCode.code = [0, 1, 2, 3, 4, 5, 6, 7, 8, 9]
  ∧ ∀ c : ResultCode, c.code.toNat < 10

/-- R97, R98: the expansions of LOADKEY, LOADBLK and CLEARKEY leave the buffer they name at the bytes they name, and
READBLK reads DATA_OUT word by word. -/
def Obligations.PseudoInstructionsMoveBlocks : Prop :=
  (∀ (s : State) (b : Block) (rest : List Input), s.inputs = Script.loadKey b ++ rest →
    Sys2Proof.core.run 4 s = .next { s with keyIn := b, inputs := rest, response := .done })
  ∧ (∀ (s : State) (b : Block) (rest : List Input), s.inputs = Script.loadBlk b ++ rest →
      Sys2Proof.core.run 4 s = .next { s with dataIn := b, inputs := rest, response := .done })
  ∧ (∀ (s : State) (rest : List Input), s.inputs = Script.clearKey ++ rest →
      Sys2Proof.core.run 4 s = .next { s with keyIn := Vector.replicate 16 0, inputs := rest, response := .done })
  ∧ (∀ (s : State) (rest : List Input), s.inputs = Script.readBlk ++ rest →
      ∀ w : Fin 4, ∃ t, Sys2Proof.core.run (w.val + 1) s = .next t ∧ t.response = .value (pack s.dataOut w))
  ∧ Script.loadKey knownKey
      = [.write 0x10 0x03020100, .write 0x14 0x07060504, .write 0x18 0x0B0A0908, .write 0x1C 0x0F0E0D0C]

/-! ## The commands -/

/-- R200: the five tests of the common prologue in their order, at the level of the command word; a command stopped by
them changes only RESULT and LASTOP. -/
def Obligations.PrologueStopsCommand : Prop :=
  ∀ (w : BusWord) (s : State),
    let stopped (c : ResultCode) : Prop := execute w s = .next (s.concluded (w.extractLsb' 0 4) c)
    (∃ t, execute w s = .next t ∧ t.lastop = w.extractLsb' 0 4)
    ∧ (s.fault = true → stopped .faulted)
    ∧ (s.fault = false → IllegalWord w → stopped .illegalCmd)
    ∧ (s.fault = false → ¬ IllegalWord w → w.extractLsb' 4 4 ≠ 0 → stopped .nullRef)
    ∧ (s.fault = false → ¬ IllegalWord w → w.extractLsb' 4 4 = 0 → w.extractLsb' 0 4 ≠ 1 → s.bound = false →
        stopped .nullRef)

/-- R245: one command word reports one code, the first of the priority list that applies, and FAULT is set exactly by
the readiness test. -/
def Obligations.FirstConditionGivesCode : Prop :=
  ∀ (w : BusWord) (s : State), ∃ t, execute w s = .next t ∧ t.result = firstCode w s
    ∧ (t.fault = true ↔ s.fault = true ∨ t.result = .notReady)

/-- R22, R23, R44: no command writes KEY_IN, DATA_IN, the parameters, the pending inputs or the bus's answer; every
command writes LASTOP with its opcode and uses one record of answers; and every command completes. -/
def Obligations.CommandsKeepHostBuffers : Prop :=
  ∀ (i : Instr) (s : State), ∃ t, exec i s = .next t
    ∧ t.keyIn = s.keyIn ∧ t.dataIn = s.dataIn ∧ t.params = s.params ∧ t.inputs = s.inputs ∧ t.response = s.response
    ∧ t.lastop = i.opcode ∧ t.answers = s.answers.tail ∧ t.draws = s.draws + 1

/-- R201: CREATE: the invalid reference, the object that exists, the binding; with its example from reset. -/
def Obligations.CreateBindsObject : Prop :=
  (∀ (s : State) (kobj : Nat), s.fault = false → kobj ≠ 0 →
    exec (.create kobj) s = .next (s.concluded 0x1 .nullRef))
  ∧ (∀ s : State, s.fault = false → s.bound = false →
    exec (.create 0) s = .next { s.concluded 0x1 .ok with
      bound := true, keysize := 16, blksize := 16, variant := 1, masked := false, rdy := false })
  ∧ (∀ s : State, s.fault = false → s.bound = true →
      exec (.create 0) s = .next (s.concluded 0x1 .alreadyBound))
  ∧ ∃ t, exec (.create 0) State.reset = .next t ∧ t.status = 0x00001001 ∧ t.info = 0x00011010 ∧ t.flags = 0

/-- R202: SET_KEY after the prologue, row by row of its table. The RES_INTEGRITY row is unreachable (R149: "cannot
happen when commands are atomic"), so these cases are all. -/
def Obligations.SetKeyOutcomes : Prop :=
  ∀ (s : State) (len : Nat), s.fault = false → s.bound = true →
    (len ≠ 16 → exec (.setKey 0 len) s = .next { s.concluded 0x2 .invalidLength with rdy := false })
    ∧ (len = 16 → s.env.allocOk = false →
        exec (.setKey 0 len) s = .next { s.concluded 0x2 .noMemory with
          rdy := false, k := s.keyIn, ic := icode s.params s.keyIn })
    ∧ (len = 16 → s.env.allocOk = true →
        exec (.setKey 0 len) s = .next
          { s.concluded 0x2 (if s.sheld = true ∧ s.env.wipeSched.ok = false then .wipeWarn else .ok) with
            rdy := true, sheld := true, k := s.keyIn, ic := icode s.params s.keyIn, sched := keyExpansion s.keyIn })

/-- R149: ScheduleKeys, whose failing paths leave SCHED and SHELD untouched; the older schedule is wiped only after the
allocation answered, and RDY is never touched. -/
def Obligations.ScheduleKeysOutcomes : Prop :=
  ∀ (e : Env) (s : State),
    (icode s.params s.k ≠ s.ic → scheduleKeys e s = (s, .integrity))
    ∧ (icode s.params s.k = s.ic → e.allocOk = false → scheduleKeys e s = (s, .noMemory))
    ∧ (icode s.params s.k = s.ic → e.allocOk = true →
        scheduleKeys e s = ({ s with sched := keyExpansion s.k, sheld := true },
          if s.sheld = true ∧ e.wipeSched.ok = false then .wipeWarn else .ok))

/-- R166: ENCRYPT after the prologue: the three tests in their order, then DATA_OUT. -/
def Obligations.EncryptOutcomes : Prop :=
  ∀ (s : State) (len : Nat), s.fault = false → s.bound = true →
    (len ≠ 16 → exec (.encrypt 0 len) s = .next (s.concluded 0x3 .invalidLength))
    ∧ (len = 16 → s.rdy = false → exec (.encrypt 0 len) s = .next { s.concluded 0x3 .notReady with fault := true })
    ∧ (len = 16 → s.rdy = true → icode s.params s.k ≠ s.ic →
        exec (.encrypt 0 len) s = .next { s.concluded 0x3 .integrity with rdy := false })
    ∧ (len = 16 → s.rdy = true → icode s.params s.k = s.ic →
        exec (.encrypt 0 len) s = .next { s.concluded 0x3 .ok with dataOut := encryptBlock s.sched s.dataIn })

/-- R185: DECRYPT after the prologue, "exactly as for ENCRYPT" with DecryptBlock. -/
def Obligations.DecryptOutcomes : Prop :=
  ∀ (s : State) (len : Nat), s.fault = false → s.bound = true →
    (len ≠ 16 → exec (.decrypt 0 len) s = .next (s.concluded 0x4 .invalidLength))
    ∧ (len = 16 → s.rdy = false → exec (.decrypt 0 len) s = .next { s.concluded 0x4 .notReady with fault := true })
    ∧ (len = 16 → s.rdy = true → icode s.params s.k ≠ s.ic →
        exec (.decrypt 0 len) s = .next { s.concluded 0x4 .integrity with rdy := false })
    ∧ (len = 16 → s.rdy = true → icode s.params s.k = s.ic →
        exec (.decrypt 0 len) s = .next { s.concluded 0x4 .ok with dataOut := decryptBlock s.sched s.dataIn })

/-- R203, R204: SET_MASK and UNMASK after the prologue write MASKED and nothing else. -/
def Obligations.MaskCommandsWriteFlag : Prop :=
  ∀ s : State, s.fault = false → s.bound = true →
    exec (.setMask 0) s = .next { s.concluded 0x5 .ok with masked := true }
    ∧ exec (.unmask 0) s = .next { s.concluded 0x6 .ok with masked := false }

/-- R205, R207: DELETE_KEYS after the prologue: the whole schedule is overwritten and then released, with the zero-fill
fallback and its warning; with nothing held, RDY falls and nothing is wiped. -/
def Obligations.DeleteKeysWipesSchedule : Prop :=
  ∀ s : State, s.fault = false → s.bound = true →
    (s.sheld = false → exec (.deleteKeys 0) s = .next { s.concluded 0x7 .ok with rdy := false })
    ∧ (s.sheld = true → s.env.wipeSched.ok = true →
        exec (.deleteKeys 0) s = .next { s.concluded 0x7 .ok with
          rdy := false, sheld := false, sched := s.env.wipeSched.pat })
    ∧ (s.sheld = true → s.env.wipeSched.ok = false →
        exec (.deleteKeys 0) s = .next { s.concluded 0x7 .wipeWarn with
          rdy := false, sheld := false, sched := Vector.replicate 176 0 })

/-- R206, R208: DESTROY after the prologue: the schedule if it is held, the key always, the other registers of the key
object cleared; RES_WIPE_WARN when a wipe that ran failed. -/
def Obligations.DestroyErasesKeyObject : Prop :=
  ∀ s : State, s.fault = false → s.bound = true →
    exec (.destroy 0) s = .next
      { s.concluded 0x8 (if (s.sheld = true ∧ s.env.wipeSched.ok = false) ∨ s.env.wipeKey.ok = false
          then .wipeWarn else .ok) with
        sched := if s.sheld then (if s.env.wipeSched.ok then s.env.wipeSched.pat else Vector.replicate 176 0) else s.sched
        sheld := false
        k := if s.env.wipeKey.ok then s.env.wipeKey.pat else Vector.replicate 16 0
        ic := 0, masked := false, keysize := 0, blksize := 0, variant := 0, rdy := false, bound := false }

/-- R246: the contract violation sets FAULT and RESULT and nothing else, and nothing else sets FAULT; from then on every
command word, legal or not, ends with RES_FAULTED; no step but reset clears FAULT; and accesses to the buffers keep working. -/
def Obligations.StickyFaultFreezesCore : Prop :=
  (∀ s : State, s.fault = false → s.bound = true → s.rdy = false →
    exec (.encrypt 0 16) s = .next { s.concluded 0x3 .notReady with fault := true }
    ∧ exec (.decrypt 0 16) s = .next { s.concluded 0x4 .notReady with fault := true })
  ∧ (∀ (s t : State) (i : Instr), s.fault = false → exec i s = .next t → t.fault = true →
      s.bound = true ∧ s.rdy = false ∧ (i = .encrypt 0 16 ∨ i = .decrypt 0 16))
  ∧ (∀ (s : State) (w : BusWord), s.fault = true →
      execute w s = .next (s.concluded (w.extractLsb' 0 4) .faulted))
  ∧ (∀ s t : State, s.fault = true → step s = .next t → s.inputs.head? ≠ some .reset → t.fault = true)
  ∧ ∀ (s : State) (w : Fin 4) (v : BusWord), s.fault = true →
      busWrite (.keyIn w) v s = .next { s with keyIn := unpack s.keyIn w v }
      ∧ busWrite (.dataIn w) v s = .next { s with dataIn := unpack s.dataIn w v }
      ∧ (busRead .status s).getLsbD 3 = true ∧ busRead (.dataOut w) s = pack s.dataOut w

/-- R210: two SET_MASKs leave the flag set, two UNMASKs leave it clear, SET_MASK then UNMASK clears it; none of these
changes anything else, and ENCRYPT and DECRYPT give the same DATA_OUT whatever MASKED is. -/
def Obligations.MaskFlagIdempotent : Prop :=
  (∀ s : State, s.fault = false → s.bound = true →
    runCommands [.setMask 0, .setMask 0] s
      = .next { (s.concluded 0x5 .ok).concluded 0x5 .ok with masked := true }
    ∧ runCommands [.unmask 0, .unmask 0] s
      = .next { (s.concluded 0x6 .ok).concluded 0x6 .ok with masked := false }
    ∧ runCommands [.setMask 0, .unmask 0] s
      = .next { (s.concluded 0x5 .ok).concluded 0x6 .ok with masked := false })
  ∧ ∀ (s : State) (b : Bool) (len : Nat), ∀ i ∈ [Instr.encrypt 0 len, .decrypt 0 len],
      ∃ t u, exec i s = .next t ∧ exec i { s with masked := b } = .next u ∧ u.dataOut = t.dataOut

/-- R211: a SET_KEY that ends with RES_OK or RES_WIPE_WARN installs KEY_IN, whatever was installed before: no old key,
code or schedule influences the new state. -/
def Obligations.RekeyForgetsOldKey : Prop :=
  ∀ (s t : State) (kobj len : Nat), exec (.setKey kobj len) s = .next t → t.result = .ok ∨ t.result = .wipeWarn →
    t.k = s.keyIn ∧ t.sched = keyExpansion s.keyIn ∧ t.ic = icode s.params s.keyIn ∧ t.rdy = true ∧ t.sheld = true
    ∧ ∀ (k' : Block) (ic' : Nat) (sched' : Schedule),
        exec (.setKey kobj len) { s with k := k', ic := ic', sched := sched' } = .next t

/-- R212: a SET_KEY of another length ends with RES_INVALID_LENGTH and RDY = 0; a following ENCRYPT or DECRYPT faults
with RES_NOT_READY; a following SET_KEY of 16 bytes succeeds, where allocation cannot fail as in this hardware (R265), and
makes the object KEYED. -/
def Obligations.WrongKeyLengthRejected : Prop :=
  ∀ (s : State) (n : Nat), s.fault = false → s.bound = true → n ≠ 16 →
    ∃ t, exec (.setKey 0 n) s = .next t ∧ t.result = .invalidLength ∧ t.rdy = false
      ∧ (∃ u, exec (.encrypt 0 16) t = .next u ∧ u.result = .notReady ∧ u.fault = true)
      ∧ (∃ u, exec (.decrypt 0 16) t = .next u ∧ u.result = .notReady ∧ u.fault = true)
      ∧ (s.params.allocCanFail = false → ∃ u, exec (.setKey 0 16) t = .next u
          ∧ (u.result = .ok ∨ u.result = .wipeWarn) ∧ u.lifecycle = .keyed)

/-- R213: after DELETE_KEYS or DESTROY with SHELD = 1 every byte of SCHED, and after DESTROY every byte of K, is the
answer's pattern byte or 0, and what the command leaves does not depend on the old contents. -/
def Obligations.WipedStoresForgetContents : Prop :=
  ∀ s : State, s.fault = false → s.bound = true → s.sheld = true →
    (∃ t, exec (.deleteKeys 0) s = .next t
      ∧ (∀ n : Fin 176, t.sched[n] = if s.env.wipeSched.ok then s.env.wipeSched.pat[n] else 0)
      ∧ ∀ sched' : Schedule, exec (.deleteKeys 0) { s with sched := sched' } = .next t)
    ∧ ∃ t, exec (.destroy 0) s = .next t
      ∧ (∀ n : Fin 176, t.sched[n] = if s.env.wipeSched.ok then s.env.wipeSched.pat[n] else 0)
      ∧ (∀ n : Fin 16, t.k[n] = if s.env.wipeKey.ok then s.env.wipeKey.pat[n] else 0)
      ∧ ∀ (k' : Block) (sched' : Schedule), exec (.destroy 0) { s with k := k', sched := sched' } = .next t

/-- R186 on the machine: on a ready, uncorrupted, unfaulted key object, ENCRYPT, a copy of DATA_OUT to DATA_IN, and
DECRYPT give the block back. -/
def Obligations.EncryptThenDecryptReturnsBlock : Prop :=
  ∀ s : State, s.fault = false → s.bound = true → s.rdy = true → icode s.params s.k = s.ic →
    (∃ t u, exec (.encrypt 0 16) s = .next t ∧ t.result = .ok
      ∧ exec (.decrypt 0 16) { t with dataIn := t.dataOut } = .next u ∧ u.result = .ok ∧ u.dataOut = s.dataIn)
    ∧ ∃ t u, exec (.decrypt 0 16) s = .next t ∧ t.result = .ok
      ∧ exec (.encrypt 0 16) { t with dataIn := t.dataOut } = .next u ∧ u.result = .ok ∧ u.dataOut = s.dataIn

/-! ## The whole machine -/

/-- R40, clauses 1 and 2, and R34 hold after reset, with ICW ≥ 1 (R8). -/
def Obligations.InvariantHoldsAtReset : Prop := Inv State.reset

/-- R40, clauses 1 and 2, and R34: every step keeps the invariant, from every state that meets it. -/
def Obligations.StepKeepsInvariant : Prop :=
  ∀ s t : State, Inv s → step s = .next t → Inv t

/-- R40, clause 3: every step but the corruption event keeps "RDY = 1 implies SCHED = KeyExpansion(K) and IC =
ICODE(K)", and the state after reset has it. -/
def Obligations.StepKeepsScheduleCurrent : Prop :=
  ScheduleCurrent State.reset
  ∧ ∀ s t : State, ScheduleCurrent s → (∀ x ∈ s.inputs.head?, x.isCorruption = false) → step s = .next t →
      ScheduleCurrent t

/-- R41: the lifecycle moves only as the rule's transitions say, by the command and its result code. -/
def Obligations.LifecycleTransitions : Prop :=
  (∀ (s : State) (i : Instr), ∃ t, exec i s = .next t ∧ t.lifecycle = nextLifecycle i t.result s.lifecycle)
  ∧ ∀ s t : State, step s = .next t →
      (s.inputs.head? = some .reset → t.lifecycle = .unbound)
      ∧ (s.inputs.head? ≠ some .reset → s.inputs.head?.bind Input.command = none → t.lifecycle = s.lifecycle)

/-- R23: DATA_OUT changes only by an ENCRYPT or DECRYPT that ends with RES_OK, and by reset. -/
def Obligations.DataOutWrittenOnlyBySuccess : Prop :=
  ∀ s t : State, step s = .next t → t.dataOut ≠ s.dataOut → s.inputs.head? = some .reset
    ∨ (∃ i, s.inputs.head?.bind Input.command = some i ∧ (i.opcode = 3 ∨ i.opcode = 4) ∧ t.result = .ok)

/-- R31, R32, R35: K changes only by SET_KEY, DESTROY, the corruption event and reset; IC only by SET_KEY, DESTROY and
reset; SCHED only by SET_KEY, DELETE_KEYS, DESTROY and reset. -/
def Obligations.SecretsWrittenOnlyByLifecycle : Prop :=
  ∀ s t : State, step s = .next t → s.inputs.head? ≠ some .reset →
    (t.k ≠ s.k → (∃ x, s.inputs.head? = some x ∧ x.isCorruption = true)
      ∨ ∃ i, s.inputs.head?.bind Input.command = some i ∧ (i.opcode = 2 ∨ i.opcode = 8))
    ∧ (t.ic ≠ s.ic → ∃ i, s.inputs.head?.bind Input.command = some i ∧ (i.opcode = 2 ∨ i.opcode = 8))
    ∧ (t.sched ≠ s.sched →
        ∃ i, s.inputs.head?.bind Input.command = some i ∧ (i.opcode = 2 ∨ i.opcode = 7 ∨ i.opcode = 8))

/-- R45: the answer to a bus read, at any offset and of any width, does not depend on K, IC, SCHED or KEY_IN. -/
def Obligations.BusReadsRevealNoSecret : Prop :=
  ∀ (s : State) (x : Input) (rest : List Input), s.inputs = x :: rest → x.isAccess = true → x.command = none →
    ∃ t, step s = .next t
      ∧ ∀ (k' : Block) (ic' : Nat) (sched' : Schedule) (keyIn' : Block),
          ∃ u, step { s with k := k', ic := ic', sched := sched', keyIn := keyIn' } = .next u
            ∧ u.response = t.response ∧ u.dataIn = t.dataIn ∧ u.dataOut = t.dataOut ∧ u.status = t.status
            ∧ u.flags = t.flags ∧ u.info = t.info

/-- R33, R96: MASKED changes no command: two states that differ in it alone give states that differ in it at most. -/
def Obligations.MaskedFlagChangesNoCommand : Prop :=
  ∀ (s : State) (w : BusWord) (b : Bool), ∃ t u, execute w s = .next t ∧ execute w { s with masked := b } = .next u
    ∧ u = { t with masked := u.masked }

/-- R266: the INTEROP pin has no effect on any command. -/
def Obligations.InteropPinHasNoEffect : Prop :=
  ∀ (i : Instr) (s : State) (e : Env) (rest : List Env) (b : Bool),
    exec i { s with answers := { e with interop := b } :: rest } = exec i { s with answers := e :: rest }

/-- R268: the corruption event writes K alone; if the code tells the new key from the recorded one the next ENCRYPT or
DECRYPT of 16 bytes on a ready object ends with RES_INTEGRITY and RDY = 0, and otherwise it uses the old schedule. -/
def Obligations.CorruptionEventDetected : Prop :=
  ∀ (s : State) (k' : Block) (rest : List Input), s.inputs = .corrupt k' :: rest → s.params.admitCorruption = true →
    ∃ t, step s = .next t ∧ t = { s with k := k', inputs := rest, response := .none }
      ∧ (s.fault = false → s.bound = true → s.rdy = true →
          (icode s.params k' ≠ s.ic →
            (∃ u, exec (.encrypt 0 16) t = .next u ∧ u.result = .integrity ∧ u.rdy = false)
            ∧ ∃ u, exec (.decrypt 0 16) t = .next u ∧ u.result = .integrity ∧ u.rdy = false)
          ∧ (icode s.params k' = s.ic →
            (∃ u, exec (.encrypt 0 16) t = .next u ∧ u.result = .ok ∧ u.dataOut = encryptBlock s.sched s.dataIn)
            ∧ ∃ u, exec (.decrypt 0 16) t = .next u ∧ u.result = .ok ∧ u.dataOut = decryptBlock s.sched s.dataIn))

/-- R209, R268: while K has not been corrupted since the schedule was made, no command ends with RES_INTEGRITY. -/
def Obligations.NoIntegrityErrorWithoutCorruption : Prop :=
  ∀ (s : State) (w : BusWord), ScheduleCurrent s → ∃ t, execute w s = .next t ∧ t.result ≠ .integrity

/-- R261, R265: with ALLOC_CAN_FAIL false, as in this hardware, no command ends with RES_NO_MEMORY; with WIPE_CAN_FAIL
false none ends with RES_WIPE_WARN. -/
def Obligations.ConstrainedAnswersNeverFail : Prop :=
  State.reset.params.allocCanFail = false
  ∧ ∀ (s : State) (w : BusWord), ∃ t, execute w s = .next t
      ∧ (s.params.allocCanFail = false → t.result ≠ .noMemory)
      ∧ (s.params.wipeCanFail = false → t.result ≠ .wipeWarn)

/-- R44: the parameters are no state: no step changes them. -/
def Obligations.StepKeepsParameters : Prop :=
  ∀ s t : State, step s = .next t → t.params = s.params
end

