-- ==== Sys2Proof/Laws/State.lean ====
section
/-! SUPPORT. What each named update of the state leaves in each field, one lemma a field, true by rfl. -/

namespace Sys2Proof.Machine

variable (s : State)

/-! ### logOp -/

@[simp] theorem State.logOp_bound (opc : BitVec 4) : (s.logOp opc).bound = s.bound := rfl
@[simp] theorem State.logOp_rdy (opc : BitVec 4) : (s.logOp opc).rdy = s.rdy := rfl
@[simp] theorem State.logOp_sheld (opc : BitVec 4) : (s.logOp opc).sheld = s.sheld := rfl
@[simp] theorem State.logOp_fault (opc : BitVec 4) : (s.logOp opc).fault = s.fault := rfl
@[simp] theorem State.logOp_result (opc : BitVec 4) : (s.logOp opc).result = s.result := rfl
@[simp] theorem State.logOp_lastop (opc : BitVec 4) : (s.logOp opc).lastop = opc := rfl
@[simp] theorem State.logOp_masked (opc : BitVec 4) : (s.logOp opc).masked = s.masked := rfl
@[simp] theorem State.logOp_keysize (opc : BitVec 4) : (s.logOp opc).keysize = s.keysize := rfl
@[simp] theorem State.logOp_blksize (opc : BitVec 4) : (s.logOp opc).blksize = s.blksize := rfl
@[simp] theorem State.logOp_variant (opc : BitVec 4) : (s.logOp opc).variant = s.variant := rfl
@[simp] theorem State.logOp_k (opc : BitVec 4) : (s.logOp opc).k = s.k := rfl
@[simp] theorem State.logOp_ic (opc : BitVec 4) : (s.logOp opc).ic = s.ic := rfl
@[simp] theorem State.logOp_sched (opc : BitVec 4) : (s.logOp opc).sched = s.sched := rfl
@[simp] theorem State.logOp_keyIn (opc : BitVec 4) : (s.logOp opc).keyIn = s.keyIn := rfl
@[simp] theorem State.logOp_dataIn (opc : BitVec 4) : (s.logOp opc).dataIn = s.dataIn := rfl
@[simp] theorem State.logOp_dataOut (opc : BitVec 4) : (s.logOp opc).dataOut = s.dataOut := rfl
@[simp] theorem State.logOp_params (opc : BitVec 4) : (s.logOp opc).params = s.params := rfl
@[simp] theorem State.logOp_answers (opc : BitVec 4) : (s.logOp opc).answers = s.answers := rfl
@[simp] theorem State.logOp_draws (opc : BitVec 4) : (s.logOp opc).draws = s.draws := rfl
@[simp] theorem State.logOp_inputs (opc : BitVec 4) : (s.logOp opc).inputs = s.inputs := rfl
@[simp] theorem State.logOp_response (opc : BitVec 4) : (s.logOp opc).response = s.response := rfl

/-! ### report -/

@[simp] theorem State.report_bound (c : ResultCode) : (s.report c).bound = s.bound := rfl
@[simp] theorem State.report_rdy (c : ResultCode) : (s.report c).rdy = s.rdy := rfl
@[simp] theorem State.report_sheld (c : ResultCode) : (s.report c).sheld = s.sheld := rfl
@[simp] theorem State.report_fault (c : ResultCode) : (s.report c).fault = s.fault := rfl
@[simp] theorem State.report_result (c : ResultCode) : (s.report c).result = c := rfl
@[simp] theorem State.report_lastop (c : ResultCode) : (s.report c).lastop = s.lastop := rfl
@[simp] theorem State.report_masked (c : ResultCode) : (s.report c).masked = s.masked := rfl
@[simp] theorem State.report_keysize (c : ResultCode) : (s.report c).keysize = s.keysize := rfl
@[simp] theorem State.report_blksize (c : ResultCode) : (s.report c).blksize = s.blksize := rfl
@[simp] theorem State.report_variant (c : ResultCode) : (s.report c).variant = s.variant := rfl
@[simp] theorem State.report_k (c : ResultCode) : (s.report c).k = s.k := rfl
@[simp] theorem State.report_ic (c : ResultCode) : (s.report c).ic = s.ic := rfl
@[simp] theorem State.report_sched (c : ResultCode) : (s.report c).sched = s.sched := rfl
@[simp] theorem State.report_keyIn (c : ResultCode) : (s.report c).keyIn = s.keyIn := rfl
@[simp] theorem State.report_dataIn (c : ResultCode) : (s.report c).dataIn = s.dataIn := rfl
@[simp] theorem State.report_dataOut (c : ResultCode) : (s.report c).dataOut = s.dataOut := rfl
@[simp] theorem State.report_params (c : ResultCode) : (s.report c).params = s.params := rfl
@[simp] theorem State.report_answers (c : ResultCode) : (s.report c).answers = s.answers := rfl
@[simp] theorem State.report_draws (c : ResultCode) : (s.report c).draws = s.draws := rfl
@[simp] theorem State.report_inputs (c : ResultCode) : (s.report c).inputs = s.inputs := rfl
@[simp] theorem State.report_response (c : ResultCode) : (s.report c).response = s.response := rfl

/-! ### useAnswers -/

@[simp] theorem State.useAnswers_bound : (s.useAnswers).bound = s.bound := rfl
@[simp] theorem State.useAnswers_rdy : (s.useAnswers).rdy = s.rdy := rfl
@[simp] theorem State.useAnswers_sheld : (s.useAnswers).sheld = s.sheld := rfl
@[simp] theorem State.useAnswers_fault : (s.useAnswers).fault = s.fault := rfl
@[simp] theorem State.useAnswers_result : (s.useAnswers).result = s.result := rfl
@[simp] theorem State.useAnswers_lastop : (s.useAnswers).lastop = s.lastop := rfl
@[simp] theorem State.useAnswers_masked : (s.useAnswers).masked = s.masked := rfl
@[simp] theorem State.useAnswers_keysize : (s.useAnswers).keysize = s.keysize := rfl
@[simp] theorem State.useAnswers_blksize : (s.useAnswers).blksize = s.blksize := rfl
@[simp] theorem State.useAnswers_variant : (s.useAnswers).variant = s.variant := rfl
@[simp] theorem State.useAnswers_k : (s.useAnswers).k = s.k := rfl
@[simp] theorem State.useAnswers_ic : (s.useAnswers).ic = s.ic := rfl
@[simp] theorem State.useAnswers_sched : (s.useAnswers).sched = s.sched := rfl
@[simp] theorem State.useAnswers_keyIn : (s.useAnswers).keyIn = s.keyIn := rfl
@[simp] theorem State.useAnswers_dataIn : (s.useAnswers).dataIn = s.dataIn := rfl
@[simp] theorem State.useAnswers_dataOut : (s.useAnswers).dataOut = s.dataOut := rfl
@[simp] theorem State.useAnswers_params : (s.useAnswers).params = s.params := rfl
@[simp] theorem State.useAnswers_answers : (s.useAnswers).answers = s.answers.tail := rfl
@[simp] theorem State.useAnswers_draws : (s.useAnswers).draws = s.draws + 1 := rfl
@[simp] theorem State.useAnswers_inputs : (s.useAnswers).inputs = s.inputs := rfl
@[simp] theorem State.useAnswers_response : (s.useAnswers).response = s.response := rfl

/-! ### setRdy -/

@[simp] theorem State.setRdy_bound (b : Bool) : (s.setRdy b).bound = s.bound := rfl
@[simp] theorem State.setRdy_rdy (b : Bool) : (s.setRdy b).rdy = b := rfl
@[simp] theorem State.setRdy_sheld (b : Bool) : (s.setRdy b).sheld = s.sheld := rfl
@[simp] theorem State.setRdy_fault (b : Bool) : (s.setRdy b).fault = s.fault := rfl
@[simp] theorem State.setRdy_result (b : Bool) : (s.setRdy b).result = s.result := rfl
@[simp] theorem State.setRdy_lastop (b : Bool) : (s.setRdy b).lastop = s.lastop := rfl
@[simp] theorem State.setRdy_masked (b : Bool) : (s.setRdy b).masked = s.masked := rfl
@[simp] theorem State.setRdy_keysize (b : Bool) : (s.setRdy b).keysize = s.keysize := rfl
@[simp] theorem State.setRdy_blksize (b : Bool) : (s.setRdy b).blksize = s.blksize := rfl
@[simp] theorem State.setRdy_variant (b : Bool) : (s.setRdy b).variant = s.variant := rfl
@[simp] theorem State.setRdy_k (b : Bool) : (s.setRdy b).k = s.k := rfl
@[simp] theorem State.setRdy_ic (b : Bool) : (s.setRdy b).ic = s.ic := rfl
@[simp] theorem State.setRdy_sched (b : Bool) : (s.setRdy b).sched = s.sched := rfl
@[simp] theorem State.setRdy_keyIn (b : Bool) : (s.setRdy b).keyIn = s.keyIn := rfl
@[simp] theorem State.setRdy_dataIn (b : Bool) : (s.setRdy b).dataIn = s.dataIn := rfl
@[simp] theorem State.setRdy_dataOut (b : Bool) : (s.setRdy b).dataOut = s.dataOut := rfl
@[simp] theorem State.setRdy_params (b : Bool) : (s.setRdy b).params = s.params := rfl
@[simp] theorem State.setRdy_answers (b : Bool) : (s.setRdy b).answers = s.answers := rfl
@[simp] theorem State.setRdy_draws (b : Bool) : (s.setRdy b).draws = s.draws := rfl
@[simp] theorem State.setRdy_inputs (b : Bool) : (s.setRdy b).inputs = s.inputs := rfl
@[simp] theorem State.setRdy_response (b : Bool) : (s.setRdy b).response = s.response := rfl

/-! ### setMasked -/

@[simp] theorem State.setMasked_bound (b : Bool) : (s.setMasked b).bound = s.bound := rfl
@[simp] theorem State.setMasked_rdy (b : Bool) : (s.setMasked b).rdy = s.rdy := rfl
@[simp] theorem State.setMasked_sheld (b : Bool) : (s.setMasked b).sheld = s.sheld := rfl
@[simp] theorem State.setMasked_fault (b : Bool) : (s.setMasked b).fault = s.fault := rfl
@[simp] theorem State.setMasked_result (b : Bool) : (s.setMasked b).result = s.result := rfl
@[simp] theorem State.setMasked_lastop (b : Bool) : (s.setMasked b).lastop = s.lastop := rfl
@[simp] theorem State.setMasked_masked (b : Bool) : (s.setMasked b).masked = b := rfl
@[simp] theorem State.setMasked_keysize (b : Bool) : (s.setMasked b).keysize = s.keysize := rfl
@[simp] theorem State.setMasked_blksize (b : Bool) : (s.setMasked b).blksize = s.blksize := rfl
@[simp] theorem State.setMasked_variant (b : Bool) : (s.setMasked b).variant = s.variant := rfl
@[simp] theorem State.setMasked_k (b : Bool) : (s.setMasked b).k = s.k := rfl
@[simp] theorem State.setMasked_ic (b : Bool) : (s.setMasked b).ic = s.ic := rfl
@[simp] theorem State.setMasked_sched (b : Bool) : (s.setMasked b).sched = s.sched := rfl
@[simp] theorem State.setMasked_keyIn (b : Bool) : (s.setMasked b).keyIn = s.keyIn := rfl
@[simp] theorem State.setMasked_dataIn (b : Bool) : (s.setMasked b).dataIn = s.dataIn := rfl
@[simp] theorem State.setMasked_dataOut (b : Bool) : (s.setMasked b).dataOut = s.dataOut := rfl
@[simp] theorem State.setMasked_params (b : Bool) : (s.setMasked b).params = s.params := rfl
@[simp] theorem State.setMasked_answers (b : Bool) : (s.setMasked b).answers = s.answers := rfl
@[simp] theorem State.setMasked_draws (b : Bool) : (s.setMasked b).draws = s.draws := rfl
@[simp] theorem State.setMasked_inputs (b : Bool) : (s.setMasked b).inputs = s.inputs := rfl
@[simp] theorem State.setMasked_response (b : Bool) : (s.setMasked b).response = s.response := rfl

/-! ### writeDataOut -/

@[simp] theorem State.writeDataOut_bound (v : Block) : (s.writeDataOut v).bound = s.bound := rfl
@[simp] theorem State.writeDataOut_rdy (v : Block) : (s.writeDataOut v).rdy = s.rdy := rfl
@[simp] theorem State.writeDataOut_sheld (v : Block) : (s.writeDataOut v).sheld = s.sheld := rfl
@[simp] theorem State.writeDataOut_fault (v : Block) : (s.writeDataOut v).fault = s.fault := rfl
@[simp] theorem State.writeDataOut_result (v : Block) : (s.writeDataOut v).result = s.result := rfl
@[simp] theorem State.writeDataOut_lastop (v : Block) : (s.writeDataOut v).lastop = s.lastop := rfl
@[simp] theorem State.writeDataOut_masked (v : Block) : (s.writeDataOut v).masked = s.masked := rfl
@[simp] theorem State.writeDataOut_keysize (v : Block) : (s.writeDataOut v).keysize = s.keysize := rfl
@[simp] theorem State.writeDataOut_blksize (v : Block) : (s.writeDataOut v).blksize = s.blksize := rfl
@[simp] theorem State.writeDataOut_variant (v : Block) : (s.writeDataOut v).variant = s.variant := rfl
@[simp] theorem State.writeDataOut_k (v : Block) : (s.writeDataOut v).k = s.k := rfl
@[simp] theorem State.writeDataOut_ic (v : Block) : (s.writeDataOut v).ic = s.ic := rfl
@[simp] theorem State.writeDataOut_sched (v : Block) : (s.writeDataOut v).sched = s.sched := rfl
@[simp] theorem State.writeDataOut_keyIn (v : Block) : (s.writeDataOut v).keyIn = s.keyIn := rfl
@[simp] theorem State.writeDataOut_dataIn (v : Block) : (s.writeDataOut v).dataIn = s.dataIn := rfl
@[simp] theorem State.writeDataOut_dataOut (v : Block) : (s.writeDataOut v).dataOut = v := rfl
@[simp] theorem State.writeDataOut_params (v : Block) : (s.writeDataOut v).params = s.params := rfl
@[simp] theorem State.writeDataOut_answers (v : Block) : (s.writeDataOut v).answers = s.answers := rfl
@[simp] theorem State.writeDataOut_draws (v : Block) : (s.writeDataOut v).draws = s.draws := rfl
@[simp] theorem State.writeDataOut_inputs (v : Block) : (s.writeDataOut v).inputs = s.inputs := rfl
@[simp] theorem State.writeDataOut_response (v : Block) : (s.writeDataOut v).response = s.response := rfl

/-! ### installKey -/

@[simp] theorem State.installKey_bound : (s.installKey).bound = s.bound := rfl
@[simp] theorem State.installKey_rdy : (s.installKey).rdy = s.rdy := rfl
@[simp] theorem State.installKey_sheld : (s.installKey).sheld = s.sheld := rfl
@[simp] theorem State.installKey_fault : (s.installKey).fault = s.fault := rfl
@[simp] theorem State.installKey_result : (s.installKey).result = s.result := rfl
@[simp] theorem State.installKey_lastop : (s.installKey).lastop = s.lastop := rfl
@[simp] theorem State.installKey_masked : (s.installKey).masked = s.masked := rfl
@[simp] theorem State.installKey_keysize : (s.installKey).keysize = s.keysize := rfl
@[simp] theorem State.installKey_blksize : (s.installKey).blksize = s.blksize := rfl
@[simp] theorem State.installKey_variant : (s.installKey).variant = s.variant := rfl
@[simp] theorem State.installKey_k : (s.installKey).k = s.keyIn := rfl
@[simp] theorem State.installKey_ic : (s.installKey).ic = icode s.params s.keyIn := rfl
@[simp] theorem State.installKey_sched : (s.installKey).sched = s.sched := rfl
@[simp] theorem State.installKey_keyIn : (s.installKey).keyIn = s.keyIn := rfl
@[simp] theorem State.installKey_dataIn : (s.installKey).dataIn = s.dataIn := rfl
@[simp] theorem State.installKey_dataOut : (s.installKey).dataOut = s.dataOut := rfl
@[simp] theorem State.installKey_params : (s.installKey).params = s.params := rfl
@[simp] theorem State.installKey_answers : (s.installKey).answers = s.answers := rfl
@[simp] theorem State.installKey_draws : (s.installKey).draws = s.draws := rfl
@[simp] theorem State.installKey_inputs : (s.installKey).inputs = s.inputs := rfl
@[simp] theorem State.installKey_response : (s.installKey).response = s.response := rfl

/-! ### holdSchedule -/

@[simp] theorem State.holdSchedule_bound (v : Schedule) : (s.holdSchedule v).bound = s.bound := rfl
@[simp] theorem State.holdSchedule_rdy (v : Schedule) : (s.holdSchedule v).rdy = s.rdy := rfl
@[simp] theorem State.holdSchedule_sheld (v : Schedule) : (s.holdSchedule v).sheld = true := rfl
@[simp] theorem State.holdSchedule_fault (v : Schedule) : (s.holdSchedule v).fault = s.fault := rfl
@[simp] theorem State.holdSchedule_result (v : Schedule) : (s.holdSchedule v).result = s.result := rfl
@[simp] theorem State.holdSchedule_lastop (v : Schedule) : (s.holdSchedule v).lastop = s.lastop := rfl
@[simp] theorem State.holdSchedule_masked (v : Schedule) : (s.holdSchedule v).masked = s.masked := rfl
@[simp] theorem State.holdSchedule_keysize (v : Schedule) : (s.holdSchedule v).keysize = s.keysize := rfl
@[simp] theorem State.holdSchedule_blksize (v : Schedule) : (s.holdSchedule v).blksize = s.blksize := rfl
@[simp] theorem State.holdSchedule_variant (v : Schedule) : (s.holdSchedule v).variant = s.variant := rfl
@[simp] theorem State.holdSchedule_k (v : Schedule) : (s.holdSchedule v).k = s.k := rfl
@[simp] theorem State.holdSchedule_ic (v : Schedule) : (s.holdSchedule v).ic = s.ic := rfl
@[simp] theorem State.holdSchedule_sched (v : Schedule) : (s.holdSchedule v).sched = v := rfl
@[simp] theorem State.holdSchedule_keyIn (v : Schedule) : (s.holdSchedule v).keyIn = s.keyIn := rfl
@[simp] theorem State.holdSchedule_dataIn (v : Schedule) : (s.holdSchedule v).dataIn = s.dataIn := rfl
@[simp] theorem State.holdSchedule_dataOut (v : Schedule) : (s.holdSchedule v).dataOut = s.dataOut := rfl
@[simp] theorem State.holdSchedule_params (v : Schedule) : (s.holdSchedule v).params = s.params := rfl
@[simp] theorem State.holdSchedule_answers (v : Schedule) : (s.holdSchedule v).answers = s.answers := rfl
@[simp] theorem State.holdSchedule_draws (v : Schedule) : (s.holdSchedule v).draws = s.draws := rfl
@[simp] theorem State.holdSchedule_inputs (v : Schedule) : (s.holdSchedule v).inputs = s.inputs := rfl
@[simp] theorem State.holdSchedule_response (v : Schedule) : (s.holdSchedule v).response = s.response := rfl

/-! ### releaseSchedule -/

@[simp] theorem State.releaseSchedule_bound (v : Schedule) : (s.releaseSchedule v).bound = s.bound := rfl
@[simp] theorem State.releaseSchedule_rdy (v : Schedule) : (s.releaseSchedule v).rdy = s.rdy := rfl
@[simp] theorem State.releaseSchedule_sheld (v : Schedule) : (s.releaseSchedule v).sheld = false := rfl
@[simp] theorem State.releaseSchedule_fault (v : Schedule) : (s.releaseSchedule v).fault = s.fault := rfl
@[simp] theorem State.releaseSchedule_result (v : Schedule) : (s.releaseSchedule v).result = s.result := rfl
@[simp] theorem State.releaseSchedule_lastop (v : Schedule) : (s.releaseSchedule v).lastop = s.lastop := rfl
@[simp] theorem State.releaseSchedule_masked (v : Schedule) : (s.releaseSchedule v).masked = s.masked := rfl
@[simp] theorem State.releaseSchedule_keysize (v : Schedule) : (s.releaseSchedule v).keysize = s.keysize := rfl
@[simp] theorem State.releaseSchedule_blksize (v : Schedule) : (s.releaseSchedule v).blksize = s.blksize := rfl
@[simp] theorem State.releaseSchedule_variant (v : Schedule) : (s.releaseSchedule v).variant = s.variant := rfl
@[simp] theorem State.releaseSchedule_k (v : Schedule) : (s.releaseSchedule v).k = s.k := rfl
@[simp] theorem State.releaseSchedule_ic (v : Schedule) : (s.releaseSchedule v).ic = s.ic := rfl
@[simp] theorem State.releaseSchedule_sched (v : Schedule) : (s.releaseSchedule v).sched = v := rfl
@[simp] theorem State.releaseSchedule_keyIn (v : Schedule) : (s.releaseSchedule v).keyIn = s.keyIn := rfl
@[simp] theorem State.releaseSchedule_dataIn (v : Schedule) : (s.releaseSchedule v).dataIn = s.dataIn := rfl
@[simp] theorem State.releaseSchedule_dataOut (v : Schedule) : (s.releaseSchedule v).dataOut = s.dataOut := rfl
@[simp] theorem State.releaseSchedule_params (v : Schedule) : (s.releaseSchedule v).params = s.params := rfl
@[simp] theorem State.releaseSchedule_answers (v : Schedule) : (s.releaseSchedule v).answers = s.answers := rfl
@[simp] theorem State.releaseSchedule_draws (v : Schedule) : (s.releaseSchedule v).draws = s.draws := rfl
@[simp] theorem State.releaseSchedule_inputs (v : Schedule) : (s.releaseSchedule v).inputs = s.inputs := rfl
@[simp] theorem State.releaseSchedule_response (v : Schedule) : (s.releaseSchedule v).response = s.response := rfl

/-! ### overwriteKey -/

@[simp] theorem State.overwriteKey_bound (v : Block) : (s.overwriteKey v).bound = s.bound := rfl
@[simp] theorem State.overwriteKey_rdy (v : Block) : (s.overwriteKey v).rdy = s.rdy := rfl
@[simp] theorem State.overwriteKey_sheld (v : Block) : (s.overwriteKey v).sheld = s.sheld := rfl
@[simp] theorem State.overwriteKey_fault (v : Block) : (s.overwriteKey v).fault = s.fault := rfl
@[simp] theorem State.overwriteKey_result (v : Block) : (s.overwriteKey v).result = s.result := rfl
@[simp] theorem State.overwriteKey_lastop (v : Block) : (s.overwriteKey v).lastop = s.lastop := rfl
@[simp] theorem State.overwriteKey_masked (v : Block) : (s.overwriteKey v).masked = s.masked := rfl
@[simp] theorem State.overwriteKey_keysize (v : Block) : (s.overwriteKey v).keysize = s.keysize := rfl
@[simp] theorem State.overwriteKey_blksize (v : Block) : (s.overwriteKey v).blksize = s.blksize := rfl
@[simp] theorem State.overwriteKey_variant (v : Block) : (s.overwriteKey v).variant = s.variant := rfl
@[simp] theorem State.overwriteKey_k (v : Block) : (s.overwriteKey v).k = v := rfl
@[simp] theorem State.overwriteKey_ic (v : Block) : (s.overwriteKey v).ic = s.ic := rfl
@[simp] theorem State.overwriteKey_sched (v : Block) : (s.overwriteKey v).sched = s.sched := rfl
@[simp] theorem State.overwriteKey_keyIn (v : Block) : (s.overwriteKey v).keyIn = s.keyIn := rfl
@[simp] theorem State.overwriteKey_dataIn (v : Block) : (s.overwriteKey v).dataIn = s.dataIn := rfl
@[simp] theorem State.overwriteKey_dataOut (v : Block) : (s.overwriteKey v).dataOut = s.dataOut := rfl
@[simp] theorem State.overwriteKey_params (v : Block) : (s.overwriteKey v).params = s.params := rfl
@[simp] theorem State.overwriteKey_answers (v : Block) : (s.overwriteKey v).answers = s.answers := rfl
@[simp] theorem State.overwriteKey_draws (v : Block) : (s.overwriteKey v).draws = s.draws := rfl
@[simp] theorem State.overwriteKey_inputs (v : Block) : (s.overwriteKey v).inputs = s.inputs := rfl
@[simp] theorem State.overwriteKey_response (v : Block) : (s.overwriteKey v).response = s.response := rfl

/-! ### bindObject -/

@[simp] theorem State.bindObject_bound : (s.bindObject).bound = true := rfl
@[simp] theorem State.bindObject_rdy : (s.bindObject).rdy = false := rfl
@[simp] theorem State.bindObject_sheld : (s.bindObject).sheld = s.sheld := rfl
@[simp] theorem State.bindObject_fault : (s.bindObject).fault = s.fault := rfl
@[simp] theorem State.bindObject_result : (s.bindObject).result = s.result := rfl
@[simp] theorem State.bindObject_lastop : (s.bindObject).lastop = s.lastop := rfl
@[simp] theorem State.bindObject_masked : (s.bindObject).masked = false := rfl
@[simp] theorem State.bindObject_keysize : (s.bindObject).keysize = 16 := rfl
@[simp] theorem State.bindObject_blksize : (s.bindObject).blksize = 16 := rfl
@[simp] theorem State.bindObject_variant : (s.bindObject).variant = 1 := rfl
@[simp] theorem State.bindObject_k : (s.bindObject).k = s.k := rfl
@[simp] theorem State.bindObject_ic : (s.bindObject).ic = s.ic := rfl
@[simp] theorem State.bindObject_sched : (s.bindObject).sched = s.sched := rfl
@[simp] theorem State.bindObject_keyIn : (s.bindObject).keyIn = s.keyIn := rfl
@[simp] theorem State.bindObject_dataIn : (s.bindObject).dataIn = s.dataIn := rfl
@[simp] theorem State.bindObject_dataOut : (s.bindObject).dataOut = s.dataOut := rfl
@[simp] theorem State.bindObject_params : (s.bindObject).params = s.params := rfl
@[simp] theorem State.bindObject_answers : (s.bindObject).answers = s.answers := rfl
@[simp] theorem State.bindObject_draws : (s.bindObject).draws = s.draws := rfl
@[simp] theorem State.bindObject_inputs : (s.bindObject).inputs = s.inputs := rfl
@[simp] theorem State.bindObject_response : (s.bindObject).response = s.response := rfl

/-! ### unbindObject -/

@[simp] theorem State.unbindObject_bound : (s.unbindObject).bound = false := rfl
@[simp] theorem State.unbindObject_rdy : (s.unbindObject).rdy = false := rfl
@[simp] theorem State.unbindObject_sheld : (s.unbindObject).sheld = s.sheld := rfl
@[simp] theorem State.unbindObject_fault : (s.unbindObject).fault = s.fault := rfl
@[simp] theorem State.unbindObject_result : (s.unbindObject).result = s.result := rfl
@[simp] theorem State.unbindObject_lastop : (s.unbindObject).lastop = s.lastop := rfl
@[simp] theorem State.unbindObject_masked : (s.unbindObject).masked = false := rfl
@[simp] theorem State.unbindObject_keysize : (s.unbindObject).keysize = 0 := rfl
@[simp] theorem State.unbindObject_blksize : (s.unbindObject).blksize = 0 := rfl
@[simp] theorem State.unbindObject_variant : (s.unbindObject).variant = 0 := rfl
@[simp] theorem State.unbindObject_k : (s.unbindObject).k = s.k := rfl
@[simp] theorem State.unbindObject_ic : (s.unbindObject).ic = 0 := rfl
@[simp] theorem State.unbindObject_sched : (s.unbindObject).sched = s.sched := rfl
@[simp] theorem State.unbindObject_keyIn : (s.unbindObject).keyIn = s.keyIn := rfl
@[simp] theorem State.unbindObject_dataIn : (s.unbindObject).dataIn = s.dataIn := rfl
@[simp] theorem State.unbindObject_dataOut : (s.unbindObject).dataOut = s.dataOut := rfl
@[simp] theorem State.unbindObject_params : (s.unbindObject).params = s.params := rfl
@[simp] theorem State.unbindObject_answers : (s.unbindObject).answers = s.answers := rfl
@[simp] theorem State.unbindObject_draws : (s.unbindObject).draws = s.draws := rfl
@[simp] theorem State.unbindObject_inputs : (s.unbindObject).inputs = s.inputs := rfl
@[simp] theorem State.unbindObject_response : (s.unbindObject).response = s.response := rfl

/-! ### concluded -/

@[simp] theorem State.concluded_bound (opc : BitVec 4) (c : ResultCode) : (s.concluded opc c).bound = s.bound := rfl
@[simp] theorem State.concluded_rdy (opc : BitVec 4) (c : ResultCode) : (s.concluded opc c).rdy = s.rdy := rfl
@[simp] theorem State.concluded_sheld (opc : BitVec 4) (c : ResultCode) : (s.concluded opc c).sheld = s.sheld := rfl
@[simp] theorem State.concluded_fault (opc : BitVec 4) (c : ResultCode) : (s.concluded opc c).fault = s.fault := rfl
@[simp] theorem State.concluded_result (opc : BitVec 4) (c : ResultCode) : (s.concluded opc c).result = c := rfl
@[simp] theorem State.concluded_lastop (opc : BitVec 4) (c : ResultCode) : (s.concluded opc c).lastop = opc := rfl
@[simp] theorem State.concluded_masked (opc : BitVec 4) (c : ResultCode) : (s.concluded opc c).masked = s.masked := rfl
@[simp] theorem State.concluded_keysize (opc : BitVec 4) (c : ResultCode) : (s.concluded opc c).keysize = s.keysize := rfl
@[simp] theorem State.concluded_blksize (opc : BitVec 4) (c : ResultCode) : (s.concluded opc c).blksize = s.blksize := rfl
@[simp] theorem State.concluded_variant (opc : BitVec 4) (c : ResultCode) : (s.concluded opc c).variant = s.variant := rfl
@[simp] theorem State.concluded_k (opc : BitVec 4) (c : ResultCode) : (s.concluded opc c).k = s.k := rfl
@[simp] theorem State.concluded_ic (opc : BitVec 4) (c : ResultCode) : (s.concluded opc c).ic = s.ic := rfl
@[simp] theorem State.concluded_sched (opc : BitVec 4) (c : ResultCode) : (s.concluded opc c).sched = s.sched := rfl
@[simp] theorem State.concluded_keyIn (opc : BitVec 4) (c : ResultCode) : (s.concluded opc c).keyIn = s.keyIn := rfl
@[simp] theorem State.concluded_dataIn (opc : BitVec 4) (c : ResultCode) : (s.concluded opc c).dataIn = s.dataIn := rfl
@[simp] theorem State.concluded_dataOut (opc : BitVec 4) (c : ResultCode) : (s.concluded opc c).dataOut = s.dataOut := rfl
@[simp] theorem State.concluded_params (opc : BitVec 4) (c : ResultCode) : (s.concluded opc c).params = s.params := rfl
@[simp] theorem State.concluded_answers (opc : BitVec 4) (c : ResultCode) : (s.concluded opc c).answers = s.answers.tail := rfl
@[simp] theorem State.concluded_draws (opc : BitVec 4) (c : ResultCode) : (s.concluded opc c).draws = s.draws + 1 := rfl
@[simp] theorem State.concluded_inputs (opc : BitVec 4) (c : ResultCode) : (s.concluded opc c).inputs = s.inputs := rfl
@[simp] theorem State.concluded_response (opc : BitVec 4) (c : ResultCode) : (s.concluded opc c).response = s.response := rfl

/-! ### respond -/

@[simp] theorem State.respond_bound (r : Response) : (s.respond r).bound = s.bound := rfl
@[simp] theorem State.respond_rdy (r : Response) : (s.respond r).rdy = s.rdy := rfl
@[simp] theorem State.respond_sheld (r : Response) : (s.respond r).sheld = s.sheld := rfl
@[simp] theorem State.respond_fault (r : Response) : (s.respond r).fault = s.fault := rfl
@[simp] theorem State.respond_result (r : Response) : (s.respond r).result = s.result := rfl
@[simp] theorem State.respond_lastop (r : Response) : (s.respond r).lastop = s.lastop := rfl
@[simp] theorem State.respond_masked (r : Response) : (s.respond r).masked = s.masked := rfl
@[simp] theorem State.respond_keysize (r : Response) : (s.respond r).keysize = s.keysize := rfl
@[simp] theorem State.respond_blksize (r : Response) : (s.respond r).blksize = s.blksize := rfl
@[simp] theorem State.respond_variant (r : Response) : (s.respond r).variant = s.variant := rfl
@[simp] theorem State.respond_k (r : Response) : (s.respond r).k = s.k := rfl
@[simp] theorem State.respond_ic (r : Response) : (s.respond r).ic = s.ic := rfl
@[simp] theorem State.respond_sched (r : Response) : (s.respond r).sched = s.sched := rfl
@[simp] theorem State.respond_keyIn (r : Response) : (s.respond r).keyIn = s.keyIn := rfl
@[simp] theorem State.respond_dataIn (r : Response) : (s.respond r).dataIn = s.dataIn := rfl
@[simp] theorem State.respond_dataOut (r : Response) : (s.respond r).dataOut = s.dataOut := rfl
@[simp] theorem State.respond_params (r : Response) : (s.respond r).params = s.params := rfl
@[simp] theorem State.respond_answers (r : Response) : (s.respond r).answers = s.answers := rfl
@[simp] theorem State.respond_draws (r : Response) : (s.respond r).draws = s.draws := rfl
@[simp] theorem State.respond_inputs (r : Response) : (s.respond r).inputs = s.inputs := rfl
@[simp] theorem State.respond_response (r : Response) : (s.respond r).response = r := rfl

/-! ### withInputs -/

@[simp] theorem State.withInputs_bound (l : List Input) : (s.withInputs l).bound = s.bound := rfl
@[simp] theorem State.withInputs_rdy (l : List Input) : (s.withInputs l).rdy = s.rdy := rfl
@[simp] theorem State.withInputs_sheld (l : List Input) : (s.withInputs l).sheld = s.sheld := rfl
@[simp] theorem State.withInputs_fault (l : List Input) : (s.withInputs l).fault = s.fault := rfl
@[simp] theorem State.withInputs_result (l : List Input) : (s.withInputs l).result = s.result := rfl
@[simp] theorem State.withInputs_lastop (l : List Input) : (s.withInputs l).lastop = s.lastop := rfl
@[simp] theorem State.withInputs_masked (l : List Input) : (s.withInputs l).masked = s.masked := rfl
@[simp] theorem State.withInputs_keysize (l : List Input) : (s.withInputs l).keysize = s.keysize := rfl
@[simp] theorem State.withInputs_blksize (l : List Input) : (s.withInputs l).blksize = s.blksize := rfl
@[simp] theorem State.withInputs_variant (l : List Input) : (s.withInputs l).variant = s.variant := rfl
@[simp] theorem State.withInputs_k (l : List Input) : (s.withInputs l).k = s.k := rfl
@[simp] theorem State.withInputs_ic (l : List Input) : (s.withInputs l).ic = s.ic := rfl
@[simp] theorem State.withInputs_sched (l : List Input) : (s.withInputs l).sched = s.sched := rfl
@[simp] theorem State.withInputs_keyIn (l : List Input) : (s.withInputs l).keyIn = s.keyIn := rfl
@[simp] theorem State.withInputs_dataIn (l : List Input) : (s.withInputs l).dataIn = s.dataIn := rfl
@[simp] theorem State.withInputs_dataOut (l : List Input) : (s.withInputs l).dataOut = s.dataOut := rfl
@[simp] theorem State.withInputs_params (l : List Input) : (s.withInputs l).params = s.params := rfl
@[simp] theorem State.withInputs_answers (l : List Input) : (s.withInputs l).answers = s.answers := rfl
@[simp] theorem State.withInputs_draws (l : List Input) : (s.withInputs l).draws = s.draws := rfl
@[simp] theorem State.withInputs_inputs (l : List Input) : (s.withInputs l).inputs = l := rfl
@[simp] theorem State.withInputs_response (l : List Input) : (s.withInputs l).response = s.response := rfl

/-! ### onReset: the model's own fields; the others are those of State.reset -/

@[simp] theorem State.onReset_bound : s.onReset.bound = State.reset.bound := rfl
@[simp] theorem State.onReset_rdy : s.onReset.rdy = State.reset.rdy := rfl
@[simp] theorem State.onReset_sheld : s.onReset.sheld = State.reset.sheld := rfl
@[simp] theorem State.onReset_fault : s.onReset.fault = State.reset.fault := rfl
@[simp] theorem State.onReset_result : s.onReset.result = State.reset.result := rfl
@[simp] theorem State.onReset_lastop : s.onReset.lastop = State.reset.lastop := rfl
@[simp] theorem State.onReset_masked : s.onReset.masked = State.reset.masked := rfl
@[simp] theorem State.onReset_keysize : s.onReset.keysize = State.reset.keysize := rfl
@[simp] theorem State.onReset_blksize : s.onReset.blksize = State.reset.blksize := rfl
@[simp] theorem State.onReset_variant : s.onReset.variant = State.reset.variant := rfl
@[simp] theorem State.onReset_k : s.onReset.k = State.reset.k := rfl
@[simp] theorem State.onReset_ic : s.onReset.ic = State.reset.ic := rfl
@[simp] theorem State.onReset_sched : s.onReset.sched = State.reset.sched := rfl
@[simp] theorem State.onReset_keyIn : s.onReset.keyIn = State.reset.keyIn := rfl
@[simp] theorem State.onReset_dataIn : s.onReset.dataIn = State.reset.dataIn := rfl
@[simp] theorem State.onReset_dataOut : s.onReset.dataOut = State.reset.dataOut := rfl
@[simp] theorem State.onReset_params : s.onReset.params = s.params := rfl
@[simp] theorem State.onReset_answers : s.onReset.answers = s.answers := rfl
@[simp] theorem State.onReset_draws : s.onReset.draws = s.draws := rfl
@[simp] theorem State.onReset_inputs : s.onReset.inputs = s.inputs := rfl
@[simp] theorem State.onReset_response : s.onReset.response = State.reset.response := rfl

/-- The write every command makes is LASTOP, RESULT and the used-up answers. -/
theorem State.report_logOp_useAnswers (opc : BitVec 4) (c : ResultCode) :
    (s.useAnswers.logOp opc).report c = s.concluded opc c := rfl

end Sys2Proof.Machine
end

