-- ==== Sys2Proof/Laws/Ops.lean ====
section
/-! SUPPORT. One lemma per shared operation that says everything it can do. -/

namespace Sys2Proof.Machine

/-- A just-installed key passes the integrity check, because ICODE is a function (R149, R209). -/
theorem integrityOk_installKey (s : State) : s.installKey.integrityOk = true := by
  simp [State.integrityOk]

/-- The check reads the parameters, K and IC only. -/
theorem integrityOk_congr {s t : State} (hp : t.params = s.params) (hk : t.k = s.k) (hi : t.ic = s.ic) :
    t.integrityOk = s.integrityOk := by
  simp [State.integrityOk, hp, hk, hi]

theorem integrityOk_iff (s : State) : s.integrityOk = true ↔ icode s.params s.k = s.ic := by
  simp [State.integrityOk]

/-- The code has ICW bits (R8, R32). -/
theorem icode_lt (p : Params) (key : Block) : icode p key < 2 ^ p.icw :=
  Nat.mod_lt _ (Nat.two_pow_pos _)

theorem Wipe.contents_of_ok {n : Nat} {w : Wipe n} (h : w.ok = true) : w.contents = w.pat := by
  simp [Wipe.contents, h]

theorem Wipe.contents_of_not_ok {n : Nat} {w : Wipe n} (h : w.ok = false) : w.contents = zeroBytes n := by
  simp [Wipe.contents, h]

/-- The prologue lets a command through exactly when FAULT = 0, the reference is valid, and the object exists unless the
command is CREATE (R200). -/
theorem prologue_eq_none_iff (opc : BitVec 4) (kobj : Nat) (s : State) :
    prologue opc kobj s = none ↔ s.fault = false ∧ kobj = 0 ∧ (opc = 1 ∨ s.bound = true) := by
  unfold prologue
  cases s.fault <;> cases hb : s.bound <;> by_cases hk : kobj = 0 <;> by_cases ho : opc = 1 <;> simp [hk, ho]

/-- What the prologue answers otherwise. -/
theorem prologue_eq_some_iff (opc : BitVec 4) (kobj : Nat) (s : State) (c : ResultCode) :
    prologue opc kobj s = some c ↔
      (s.fault = true ∧ c = .faulted) ∨
      (s.fault = false ∧ (kobj ≠ 0 ∨ (opc ≠ 1 ∧ s.bound = false)) ∧ c = .nullRef) := by
  unfold prologue
  cases s.fault <;> cases hb : s.bound <;> by_cases hk : kobj = 0 <;> by_cases ho : opc = 1 <;>
    simp [hk, ho, eq_comm]

/-- A command the prologue stops. -/
theorem runCommand_stopped {opc : BitVec 4} {kobj : Nat} {s : State} {c : ResultCode}
    (h : prologue opc kobj s = some c) (body : Env → State → State × ResultCode) :
    runCommand opc kobj body s = s.concluded opc c := by
  simp only [runCommand, h]
  rfl

/-- A command the prologue lets through. -/
theorem runCommand_runs {opc : BitVec 4} {kobj : Nat} {s : State} (h : prologue opc kobj s = none)
    (body : Env → State → State × ResultCode) :
    runCommand opc kobj body s =
      (body s.env (s.useAnswers.logOp opc)).1.report (body s.env (s.useAnswers.logOp opc)).2 := by
  simp only [runCommand, h]

/-- All that a command can do: the prologue stops it, or its own function runs. -/
theorem runCommand_cases (opc : BitVec 4) (kobj : Nat) (body : Env → State → State × ResultCode) (s : State) :
    (∃ c, (c = .faulted ∨ c = .nullRef) ∧ runCommand opc kobj body s = s.concluded opc c) ∨
    (s.fault = false ∧ kobj = 0 ∧ (opc = 1 ∨ s.bound = true) ∧
      runCommand opc kobj body s =
        (body s.env (s.useAnswers.logOp opc)).1.report (body s.env (s.useAnswers.logOp opc)).2) := by
  cases h : prologue opc kobj s with
  | some c =>
    refine .inl ⟨c, ?_, runCommand_stopped h body⟩
    obtain ⟨-, rfl⟩ | ⟨-, -, rfl⟩ := (prologue_eq_some_iff _ _ _ _).mp h
    · exact .inl rfl
    · exact .inr rfl
  | none =>
    obtain ⟨hf, hk, hb⟩ := (prologue_eq_none_iff _ _ _).mp h
    exact .inr ⟨hf, hk, hb, runCommand_runs h body⟩

/-- DeleteKeys where a schedule is held, and nothing where none is (R207). -/
theorem deleteIfHeld_cases (w : Wipe 176) (s : State) :
    (s.sheld = true ∧ deleteIfHeld w s = (s.releaseSchedule w.contents, !w.ok)) ∨
    (s.sheld = false ∧ deleteIfHeld w s = (s, false)) := by
  unfold deleteIfHeld deleteSchedule
  cases h : s.sheld <;> simp

/-- Whether or not a schedule was held, holding a new one afterwards leaves the same state (R211: the old schedule is
overwritten twice). -/
theorem holdSchedule_deleteIfHeld (w : Wipe 176) (s : State) (v : Schedule) :
    (deleteIfHeld w s).1.holdSchedule v = s.holdSchedule v := by
  obtain ⟨-, h⟩ | ⟨-, h⟩ := deleteIfHeld_cases w s
  · rw [h]; rfl
  · rw [h]

/-- K is not touched by the wipe of the schedule (R207). -/
theorem deleteIfHeld_k (w : Wipe 176) (s : State) : (deleteIfHeld w s).1.k = s.k := by
  obtain ⟨-, h⟩ | ⟨-, h⟩ := deleteIfHeld_cases w s
  · rw [h]; rfl
  · rw [h]

/-- A wipe fails only where one ran. -/
theorem deleteIfHeld_failed (w : Wipe 176) (s : State) : (deleteIfHeld w s).2 = (s.sheld && !w.ok) := by
  obtain ⟨hs, h⟩ | ⟨hs, h⟩ := deleteIfHeld_cases w s <;> simp [h, hs]

/-- All that ScheduleKeys can do (R149). -/
theorem scheduleKeys_cases (e : Env) (s : State) :
    (s.integrityOk = false ∧ scheduleKeys e s = (s, .integrity)) ∨
    (s.integrityOk = true ∧ e.allocOk = false ∧ scheduleKeys e s = (s, .noMemory)) ∨
    (s.integrityOk = true ∧ e.allocOk = true ∧
      scheduleKeys e s = (s.holdSchedule (keyExpansion s.k), warnIf (s.sheld && !e.wipeSched.ok))) := by
  unfold scheduleKeys
  cases hi : s.integrityOk with
  | false => exact .inl ⟨rfl, rfl⟩
  | true =>
    cases ha : e.allocOk with
    | false => exact .inr (.inl ⟨rfl, rfl, rfl⟩)
    | true =>
      refine .inr (.inr ⟨rfl, rfl, ?_⟩)
      simp [holdSchedule_deleteIfHeld, deleteIfHeld_k, deleteIfHeld_failed]

/-- All that SET_KEY's own function can do (R202): RES_INTEGRITY does not occur. -/
theorem setKey_cases (len : Nat) (e : Env) (s : State) :
    (len ≠ 16 ∧ setKey len e s = (s.setRdy false, .invalidLength)) ∨
    (len = 16 ∧ e.allocOk = false ∧ setKey len e s = ((s.setRdy false).installKey, .noMemory)) ∨
    (len = 16 ∧ e.allocOk = true ∧
      setKey len e s = ((((s.setRdy false).installKey).holdSchedule (keyExpansion s.keyIn)).setRdy true,
        warnIf (s.sheld && !e.wipeSched.ok))) := by
  by_cases hl : len = 16
  · have hi := integrityOk_installKey (s.setRdy false)
    have hh : ((s.setRdy false).installKey.holdSchedule (keyExpansion s.keyIn)).integrityOk = true :=
      (integrityOk_congr (s := (s.setRdy false).installKey) rfl rfl rfl).trans hi
    have hw : ∀ b, warnIf b ≠ .integrity ∧ warnIf b ≠ .noMemory := by intro b; cases b <;> simp [warnIf]
    obtain ⟨h, -⟩ | ⟨-, ha, h⟩ | ⟨-, ha, h⟩ := scheduleKeys_cases e (s.setRdy false).installKey
    · simp [hi] at h
    · exact .inr (.inl ⟨hl, ha, by simp [setKey, hl, Config.keyLen, h]⟩)
    · refine .inr (.inr ⟨hl, ha, ?_⟩)
      simp [setKey, hl, Config.keyLen, h, hw, hh]
  · exact .inl ⟨hl, by simp [setKey, hl, Config.keyLen]⟩

/-- All that ENCRYPT's and DECRYPT's own function can do (R166, R185). -/
theorem blockCommand_cases (f : Schedule → Block → Block) (len : Nat) (e : Env) (s : State) :
    (len ≠ 16 ∧ blockCommand f len e s = (s, .invalidLength)) ∨
    (len = 16 ∧ s.rdy = false ∧ blockCommand f len e s = ({ s with fault := true }, .notReady)) ∨
    (len = 16 ∧ s.rdy = true ∧ s.integrityOk = false ∧ blockCommand f len e s = (s.setRdy false, .integrity)) ∨
    (len = 16 ∧ s.rdy = true ∧ s.integrityOk = true ∧
      blockCommand f len e s = (s.writeDataOut (f s.sched s.dataIn), .ok)) := by
  unfold blockCommand State.raiseFault
  by_cases hl : len = 16 <;> cases hr : s.rdy <;> cases hi : s.integrityOk <;> simp [hl, Config.blkLen]

/-- DELETE_KEYS's own function (R205). -/
theorem deleteKeysCmd_cases (e : Env) (s : State) :
    (s.sheld = true ∧ deleteKeysCmd e s
      = ((s.setRdy false).releaseSchedule e.wipeSched.contents, warnIf (!e.wipeSched.ok))) ∨
    (s.sheld = false ∧ deleteKeysCmd e s = (s.setRdy false, .ok)) := by
  obtain ⟨hs, h⟩ | ⟨hs, h⟩ := deleteIfHeld_cases e.wipeSched (s.setRdy false)
  · exact .inl ⟨hs, by simp only [deleteKeysCmd, h]⟩
  · exact .inr ⟨hs, by simp only [deleteKeysCmd, h]; rfl⟩

/-- DESTROY's own function (R206). -/
theorem destroyObject_cases (e : Env) (s : State) :
    (s.sheld = true ∧ destroyObject e s
      = (((s.releaseSchedule e.wipeSched.contents).overwriteKey e.wipeKey.contents).unbindObject,
          warnIf (!e.wipeSched.ok || !e.wipeKey.ok))) ∨
    (s.sheld = false ∧ destroyObject e s
      = ((s.overwriteKey e.wipeKey.contents).unbindObject, warnIf (!e.wipeKey.ok))) := by
  obtain ⟨hs, h⟩ | ⟨hs, h⟩ := deleteIfHeld_cases e.wipeSched s
  · exact .inl ⟨hs, by simp only [destroyObject, h]; rfl⟩
  · exact .inr ⟨hs, by simp only [destroyObject, h, Bool.false_or]; rfl⟩

/-- CREATE's own function (R201). -/
theorem createObject_cases (e : Env) (s : State) :
    (s.bound = true ∧ createObject e s = (s, .alreadyBound)) ∨
    (s.bound = false ∧ createObject e s = (s.bindObject, .ok)) := by
  unfold createObject
  cases h : s.bound <;> simp

end Sys2Proof.Machine
end

