-- ==== Sys2Proof/Laws/Bus.lean ====
section
/-! SUPPORT. The window: which register stands at which offset, and all that one input can do. -/

namespace Sys2Proof.Machine

/-- Every register stands at its offset (R61). -/
theorem regAt_offset (r : Reg) : regAt r.offset = some r := by
  cases r with
  | cmd | status | flags | info => decide
  | keyIn w | dataIn w | dataOut w => revert w; decide

/-- The window has no hole: every aligned offset is a register's (R61). -/
theorem offset_of_regAt : ∀ (off : BitVec 6) (r : Reg), regAt off = some r → r.offset = off := by decide

/-- Only an unaligned offset has no register (R66). -/
theorem regAt_eq_none_iff (off : BitVec 6) : regAt off = none ↔ off.toNat % 4 ≠ 0 := by
  unfold regAt
  split <;> simp_all

/-- All that a write of a register can do (R63). -/
theorem busWrite_cases (r : Reg) (v : BusWord) (s : State) :
    (r = .cmd ∧ busWrite r v s = execute v s) ∨
    (∃ w, r = .keyIn w ∧ busWrite r v s = .next { s with keyIn := unpack s.keyIn w v }) ∨
    (∃ w, r = .dataIn w ∧ busWrite r v s = .next { s with dataIn := unpack s.dataIn w v }) ∨
    ((r = .status ∨ r = .flags ∨ r = .info ∨ ∃ w, r = .dataOut w) ∧ busWrite r v s = .next s) := by
  cases r <;> simp [busWrite]

/-- All that a step can do, input by input. -/
theorem step_cases {s t : State} (h : step s = .next t) :
    (s.inputs = [] ∧ t = s) ∨
    ∃ x rest, s.inputs = x :: rest ∧
      ((x.command = none ∧ x.isAccess = true ∧ ∃ r, t = { s with inputs := rest, response := r }) ∨
       (∃ w v, x = .write (Reg.keyIn w).offset v ∧
          t = { s with inputs := rest, response := .done, keyIn := unpack s.keyIn w v }) ∨
       (∃ w v, x = .write (Reg.dataIn w).offset v ∧
          t = { s with inputs := rest, response := .done, dataIn := unpack s.dataIn w v }) ∨
       (∃ v, x = .write 0 v ∧ execute v { s with inputs := rest, response := .done } = .next t) ∨
       (x = .reset ∧ t = (s.withInputs rest).onReset) ∨
       (∃ k', x = .corrupt k' ∧ s.params.admitCorruption = true ∧
          t = { s with inputs := rest, response := .none, k := k' })) := by
  unfold step takeInput at h
  cases hi : s.inputs with
  | nil => simp only [hi] at h; cases h; exact .inl ⟨rfl, rfl⟩
  | cons x rest =>
    simp only [hi] at h
    refine .inr ⟨x, rest, rfl, ?_⟩
    cases x with
    | read off =>
      left
      simp only [deliver] at h
      split at h <;> cases h <;> exact ⟨rfl, rfl, _, rfl⟩
    | oddRead w off => left; cases h; exact ⟨rfl, rfl, _, rfl⟩
    | oddWrite w off => left; cases h; exact ⟨rfl, rfl, _, rfl⟩
    | reset => cases h; exact .inr (.inr (.inr (.inr (.inl ⟨rfl, rfl⟩))))
    | corrupt k' =>
      simp only [deliver, corruptKey] at h
      split at h
      · rename_i ha
        cases h
        exact .inr (.inr (.inr (.inr (.inr ⟨k', rfl, ha, rfl⟩))))
      · cases h
    | write off v =>
      simp only [deliver] at h
      cases hr : regAt off with
      | none =>
        simp only [hr] at h
        cases h
        refine .inl ⟨?_, rfl, _, rfl⟩
        have : off ≠ 0 := by rintro rfl; revert hr; decide
        exact if_neg this
      | some r =>
        simp only [hr] at h
        have ho := offset_of_regAt off r hr
        obtain ⟨rfl, hb⟩ | ⟨w, rfl, hb⟩ | ⟨w, rfl, hb⟩ | ⟨hro, hb⟩ := busWrite_cases r v ((s.withInputs rest).respond .done)
        · rw [hb] at h
          exact .inr (.inr (.inr (.inl ⟨v, by rw [← ho]; rfl, h⟩)))
        · rw [hb] at h
          cases h
          exact .inr (.inl ⟨w, v, by rw [ho], rfl⟩)
        · rw [hb] at h
          cases h
          exact .inr (.inr (.inl ⟨w, v, by rw [ho], rfl⟩))
        · rw [hb] at h
          cases h
          refine .inl ⟨?_, rfl, _, rfl⟩
          have hne : off ≠ 0 := by
            rintro rfl
            have hc : some Reg.cmd = some r := by rw [← hr]; rfl
            cases hc
            simp at hro
          exact if_neg hne

end Sys2Proof.Machine
end

