-- ==== Sys2Proof/Laws/Decode.lean ====
section
/-! SUPPORT. The fields of a command word, and the opcode map's rows. -/

namespace Sys2Proof

/-- The bits of an encoded command: RSV, LEN, KOBJ, OPC from bit 31 down (R90, R93). -/
theorem getLsbD_encode (i : Instr) (k : Nat) :
    (encode i).getLsbD k =
      if k < 4 then i.opcode.getLsbD k
      else if k < 8 then (BitVec.ofNat 4 i.kobj).getLsbD (k - 4)
      else if k < 16 then (BitVec.ofNat 8 i.lenOperand).getLsbD (k - 8)
      else false := by
  change BitVec.getLsbD (0#16 ++ BitVec.ofNat 8 i.lenOperand ++ BitVec.ofNat 4 i.kobj ++ i.opcode) k = _
  rw [BitVec.getLsbD_append, BitVec.getLsbD_append, BitVec.getLsbD_append]
  have e : k - 4 - 4 = k - 8 := by omega
  by_cases h4 : k < 4
  · simp only [h4, if_true]
  · by_cases h8 : k < 8
    · have : k - 4 < 4 := by omega
      simp only [h4, h8, this, if_true, if_false]
    · have h84 : ¬ k - 4 < 4 := by omega
      by_cases h16 : k < 16
      · have : k - 8 < 8 := by omega
        simp only [h4, h8, h84, h16, e, this, if_true, if_false]
      · have : ¬ k - 8 < 8 := by omega
        simp only [h4, h8, h84, h16, e, this, if_false]
        simp

/-- The four fields of an encoded command. -/
theorem opcField_encode (i : Instr) : opcField (encode i) = i.opcode := by
  apply BitVec.eq_of_getLsbD_eq
  intro k hk
  simp [opcField, getLsbD_encode, hk]

theorem kobjField_encode (i : Instr) : kobjField (encode i) = i.kobj % 16 := by
  have h : (encode i).extractLsb' 4 4 = BitVec.ofNat 4 i.kobj := by
    apply BitVec.eq_of_getLsbD_eq
    intro k hk
    have : 4 + k < 8 := by omega
    simp [getLsbD_encode, hk, this]
  rw [kobjField, h, BitVec.toNat_ofNat]

theorem lenField_encode (i : Instr) : lenField (encode i) = i.lenOperand % 256 := by
  have h : (encode i).extractLsb' 8 8 = BitVec.ofNat 8 i.lenOperand := by
    apply BitVec.eq_of_getLsbD_eq
    intro k hk
    have h4 : ¬ 8 + k < 4 := by omega
    have h16 : 8 + k < 16 := by omega
    simp [getLsbD_encode, hk, h4, h16]
  rw [lenField, h, BitVec.toNat_ofNat]

theorem rsvField_encode (i : Instr) : rsvField (encode i) = 0 := by
  apply BitVec.eq_of_getLsbD_eq
  intro k hk
  have h4 : ¬ 16 + k < 4 := by omega
  have h8 : ¬ 16 + k < 8 := by omega
  simp [rsvField, getLsbD_encode, hk, h4, h8]

/-- No two rows of the opcode map overlap: some bit that both masks cover differs (R93). -/
theorem opcodeTable_pairwise :
    opcodeTable.Pairwise fun a b => (a.pat ^^^ b.pat) &&& a.mask &&& b.mask ≠ 0 := by decide

end Sys2Proof
end

