-- ==== Sys2Proof/Laws/PerInstr.lean ====
section
/-! SUPPORT. One fact about every command as a term: its word lies in its row of the opcode map (30_encoding.md R93),
with KOBJ and LEN in their places (R91). -/

namespace Sys2Proof.Laws.FieldsInPlace

/-- The opcode of the command's row, and the operand fields of its word. -/
def Statement (i : Instr) : Prop :=
  i.wellFormed = true →
    opcField (encode i) = i.row.pat.extractLsb' 0 4 ∧ kobjField (encode i) = i.kobj
      ∧ lenField (encode i) = i.lenOperand ∧ rsvField (encode i) = 0

theorem of_fits {i : Instr} (hk : i.kobj < 16) (hl : i.lenOperand < 256)
    (hp : i.row.pat.extractLsb' 0 4 = i.opcode) :
    opcField (encode i) = i.row.pat.extractLsb' 0 4 ∧ kobjField (encode i) = i.kobj
      ∧ lenField (encode i) = i.lenOperand ∧ rsvField (encode i) = 0 := by
  rw [opcField_encode, kobjField_encode, lenField_encode, hp, Nat.mod_eq_of_lt hk, Nat.mod_eq_of_lt hl]
  exact ⟨rfl, rfl, rfl, rsvField_encode i⟩

theorem create (kobj : Nat) : Statement (.create kobj) := fun h =>
  of_fits (by simpa [Instr.wellFormed, kobjFits, Instr.kobj] using h) (by simp [Instr.lenOperand]) rfl

theorem setKey (kobj len : Nat) : Statement (.setKey kobj len) := fun h => by
  obtain ⟨hk, hl⟩ : kobj < 16 ∧ len < 256 := by simpa [Instr.wellFormed, kobjFits, lenFits] using h
  exact of_fits hk hl rfl

theorem encrypt (kobj len : Nat) : Statement (.encrypt kobj len) := fun h => by
  obtain ⟨hk, hl⟩ : kobj < 16 ∧ len < 256 := by simpa [Instr.wellFormed, kobjFits, lenFits] using h
  exact of_fits hk hl rfl

theorem decrypt (kobj len : Nat) : Statement (.decrypt kobj len) := fun h => by
  obtain ⟨hk, hl⟩ : kobj < 16 ∧ len < 256 := by simpa [Instr.wellFormed, kobjFits, lenFits] using h
  exact of_fits hk hl rfl

theorem setMask (kobj : Nat) : Statement (.setMask kobj) := fun h =>
  of_fits (by simpa [Instr.wellFormed, kobjFits, Instr.kobj] using h) (by simp [Instr.lenOperand]) rfl

theorem unmask (kobj : Nat) : Statement (.unmask kobj) := fun h =>
  of_fits (by simpa [Instr.wellFormed, kobjFits, Instr.kobj] using h) (by simp [Instr.lenOperand]) rfl

theorem deleteKeys (kobj : Nat) : Statement (.deleteKeys kobj) := fun h =>
  of_fits (by simpa [Instr.wellFormed, kobjFits, Instr.kobj] using h) (by simp [Instr.lenOperand]) rfl

theorem destroy (kobj : Nat) : Statement (.destroy kobj) := fun h =>
  of_fits (by simpa [Instr.wellFormed, kobjFits, Instr.kobj] using h) (by simp [Instr.lenOperand]) rfl

end Sys2Proof.Laws.FieldsInPlace
end

