-- ==== Sys2Proof/Laws/Transforms.lean ====
section
/-! SUPPORT. The cipher's byte sequences entry by entry: what each transform leaves at each position. -/

namespace Sys2Proof.Machine

/-- Two blocks with the same four columns are equal (R11). -/
theorem block_ext_column {s t : Block} (h : ∀ c : Fin 4, column s c = column t c) : s = t := by
  have h0 := h 0
  have h1 := h 1
  have h2 := h 2
  have h3 := h 3
  simp only [column, Word4.mk.injEq] at h0 h1 h2 h3
  obtain ⟨a0, a1, a2, a3⟩ := h0
  obtain ⟨b0, b1, b2, b3⟩ := h1
  obtain ⟨c0, c1, c2, c3⟩ := h2
  obtain ⟨d0, d1, d2, d3⟩ := h3
  apply Vector.ext
  intro i hi
  interval_cases i <;> assumption

theorem column_ofColumns (f : Fin 4 → Word4) (c : Fin 4) : column (ofColumns f) c = f c := by
  fin_cases c <;> simp [column, ofColumns, byteOf]

theorem ofColumns_column (s : Block) : (ofColumns fun c => column s c) = s :=
  block_ext_column fun c => column_ofColumns _ c

theorem addRoundKey_get (sch : Schedule) (r : Fin 11) (s : Block) (n : Fin 16) :
    (addRoundKey sch r s)[n.val] = s[n.val] ^^^ sch[16 * r.val + n.val] := by
  simp [addRoundKey]

theorem subBytes_get (s : Block) (n : Fin 16) : (subBytes s)[n.val] = sbox s[n.val] := by
  simp [subBytes]

theorem invSubBytes_get (s : Block) (n : Fin 16) : (invSubBytes s)[n.val] = invSbox s[n.val] := by
  simp [invSubBytes]

theorem shiftRows_get (s : Block) (n : Fin 16) :
    (shiftRows s)[n.val] = s[n.val % 4 + 4 * ((n.val / 4 + n.val % 4) % 4)] := by
  simp [shiftRows]

theorem invShiftRows_get (s : Block) (n : Fin 16) :
    (invShiftRows s)[n.val] = s[n.val % 4 + 4 * ((n.val / 4 + 4 - n.val % 4) % 4)] := by
  simp [invShiftRows]

theorem column_mixColumns (s : Block) (c : Fin 4) : column (mixColumns s) c = mixColumn (column s c) :=
  column_ofColumns _ c

theorem column_invMixColumns (s : Block) (c : Fin 4) : column (invMixColumns s) c = invMixColumn (column s c) :=
  column_ofColumns _ c

/-- A schedule word of the expansion is the word the loop computed (R141). -/
theorem schedWord_keyExpansion (key : Block) (i : Fin 44) : schedWord (keyExpansion key) i = scheduleWord key i.val := by
  have h0 : (4 * i.val) / 4 = i.val := by omega
  have h1 : (4 * i.val + 1) / 4 = i.val := by omega
  have h2 : (4 * i.val + 2) / 4 = i.val := by omega
  have h3 : (4 * i.val + 3) / 4 = i.val := by omega
  have m0 : (4 * i.val) % 4 = 0 := by omega
  have m1 : (4 * i.val + 1) % 4 = 1 := by omega
  have m2 : (4 * i.val + 2) % 4 = 2 := by omega
  have m3 : (4 * i.val + 3) % 4 = 3 := by omega
  simp only [schedWord, keyExpansion, Vector.getElem_ofFn, h0, h1, h2, h3, m0, m1, m2, m3]
  rfl

/-- Every word of a window is the word of the window's index, from the second turn on seen one place earlier. -/
theorem windowAt_succ (key : Block) (j : Nat) :
    (windowAt key (j + 1)).w0 = (windowAt key j).w1 ∧ (windowAt key (j + 1)).w1 = (windowAt key j).w2
      ∧ (windowAt key (j + 1)).w2 = (windowAt key j).w3
      ∧ (windowAt key (j + 1)).w3
          = xorWord (windowAt key j).w0 (tempWord (windowAt key j).w3 (j + 4)) :=
  ⟨rfl, rfl, rfl, rfl⟩

/-- The look-up in INVSBOX undoes the look-up in SBOX (R132; the values are G1 and G2). -/
theorem invSbox_sbox : ∀ b : Byte, invSbox (sbox b) = b := by decide +kernel

theorem sbox_invSbox : ∀ b : Byte, sbox (invSbox b) = b := by decide +kernel

end Sys2Proof.Machine
end

