-- ==== Sys2Proof/Tests/Slice0.lean ====
section
/-! SUPPORT. Small tests of the model, with expected values from spec/95_test_vectors.md, and for every statement with
hypotheses a named state that meets them. -/

namespace Sys2Proof.Tests.Slice0

open Sys2Proof Sys2Proof.Machine

/-! ## Well-formedness: each check refuses an ill-formed term -/

theorem test_wf_create_kobj : (Instr.create 16).wellFormed = false ∧ (Instr.create 15).wellFormed = true := by decide
theorem test_wf_setKey_kobj : (Instr.setKey 16 16).wellFormed = false := by decide
theorem test_wf_setKey_len : (Instr.setKey 0 256).wellFormed = false ∧ (Instr.setKey 15 255).wellFormed = true := by decide
theorem test_wf_encrypt_kobj : (Instr.encrypt 16 16).wellFormed = false := by decide
theorem test_wf_encrypt_len : (Instr.encrypt 0 256).wellFormed = false ∧ (Instr.encrypt 15 255).wellFormed = true := by decide
theorem test_wf_decrypt_kobj : (Instr.decrypt 16 16).wellFormed = false := by decide
theorem test_wf_decrypt_len : (Instr.decrypt 0 256).wellFormed = false ∧ (Instr.decrypt 15 255).wellFormed = true := by decide
theorem test_wf_setMask_kobj : (Instr.setMask 16).wellFormed = false ∧ (Instr.setMask 15).wellFormed = true := by decide
theorem test_wf_unmask_kobj : (Instr.unmask 16).wellFormed = false ∧ (Instr.unmask 15).wellFormed = true := by decide
theorem test_wf_deleteKeys_kobj : (Instr.deleteKeys 16).wellFormed = false ∧ (Instr.deleteKeys 15).wellFormed = true := by decide
theorem test_wf_destroy_kobj : (Instr.destroy 16).wellFormed = false ∧ (Instr.destroy 15).wellFormed = true := by decide

/-! ## Decoding: one word per command, written from R93's pattern column as RSV ++ LEN ++ KOBJ ++ OPC -/

theorem test_decode_create : decode (0b0000000000000000#16 ++ 0b00000000#8 ++ 0b1010#4 ++ 0b0001#4) = .ok (.create 10) := by rfl
theorem test_decode_setKey : decode (0b0000000000000000#16 ++ 0b00010000#8 ++ 0b0000#4 ++ 0b0010#4) = .ok (.setKey 0 16) := by rfl
theorem test_decode_encrypt : decode (0b0000000000000000#16 ++ 0b10000001#8 ++ 0b0001#4 ++ 0b0011#4) = .ok (.encrypt 1 129) := by rfl
theorem test_decode_decrypt : decode (0b0000000000000000#16 ++ 0b00010000#8 ++ 0b1000#4 ++ 0b0100#4) = .ok (.decrypt 8 16) := by rfl
theorem test_decode_setMask : decode (0b0000000000000000#16 ++ 0b00000000#8 ++ 0b0000#4 ++ 0b0101#4) = .ok (.setMask 0) := by rfl
theorem test_decode_unmask : decode (0b0000000000000000#16 ++ 0b00000000#8 ++ 0b0010#4 ++ 0b0110#4) = .ok (.unmask 2) := by rfl
theorem test_decode_deleteKeys : decode (0b0000000000000000#16 ++ 0b00000000#8 ++ 0b0100#4 ++ 0b0111#4) = .ok (.deleteKeys 4) := by rfl
theorem test_decode_destroy : decode (0b0000000000000000#16 ++ 0b00000000#8 ++ 0b1111#4 ++ 0b1000#4) = .ok (.destroy 15) := by rfl

/-- T47 to T50 and R95: unassigned opcodes, a length on a command that takes none, a reserved bit. -/
theorem test_decode_rejects :
    decode 0x00000000 = .error .unassignedOpcode ∧ decode 0x00000009 = .error .unassignedOpcode
    ∧ decode 0x0000000F = .error .unassignedOpcode ∧ decode 0x00000107 = .error .nonzeroLength
    ∧ decode 0x80001003 = .error .reservedBits := ⟨rfl, rfl, rfl, rfl, rfl⟩

/-- The same eight usual words through the host's view of the decoder (spec/opcode_table.json). -/
theorem test_decodeTableWord :
    decodeTableWord 32 0x00000001 = some (.create 0) ∧ decodeTableWord 32 0x00001002 = some (.setKey 0 16)
    ∧ decodeTableWord 32 0x00001003 = some (.encrypt 0 16) ∧ decodeTableWord 32 0x00001004 = some (.decrypt 0 16)
    ∧ decodeTableWord 32 0x00000005 = some (.setMask 0) ∧ decodeTableWord 32 0x00000006 = some (.unmask 0)
    ∧ decodeTableWord 32 0x00000007 = some (.deleteKeys 0) ∧ decodeTableWord 32 0x00000008 = some (.destroy 0)
    ∧ decodeTableWord 32 0x00000009 = none := ⟨rfl, rfl, rfl, rfl, rfl, rfl, rfl, rfl, rfl⟩

/-! ## The cipher's procedures (95_test_vectors.md sections 2 to 6) -/

/-- Section 2, row D4. -/
theorem test_multipliers_D4 :
    xtime 0xD4 = 0xB3 ∧ mul3 0xD4 = 0x67 ∧ mul9 0xD4 = 0x2E ∧ mulB 0xD4 = 0x9D ∧ mulD 0xD4 = 0x53 ∧ mulE 0xD4 = 0x34 := by decide

/-- Section 2, the table look-ups. -/
theorem test_tables :
    sbox 0x53 = 0xED ∧ sbox 0xFF = 0x16 ∧ invSbox 0xED = 0x53 ∧ invSbox 0xFF = 0x7D ∧ rc 0 = 0x01 ∧ rc 8 = 0x1B ∧ rc 9 = 0x36 := by decide

/-- Section 3, the word-level step i = 40 of V3. -/
theorem test_tempWord :
    tempWord ⟨0xBE, 0x2C, 0x97, 0x4E⟩ 40 = ⟨0x47, 0x88, 0x2F, 0xAE⟩ ∧ tempWord ⟨0xD6, 0xAA, 0x74, 0xFD⟩ 5 = ⟨0xD6, 0xAA, 0x74, 0xFD⟩ := by decide

/-- Section 3, V3: the last word of round key 10. -/
theorem test_keyExpansion_last : schedWord (keyExpansion knownKey) 43 = ⟨0x4D, 0x2B, 0x30, 0xC5⟩ := by decide +kernel

/-- Section 5: SHIFTROWS and INVSHIFTROWS. -/
theorem test_shiftRows :
    shiftRows knownKey = #v[0x00, 0x05, 0x0A, 0x0F, 0x04, 0x09, 0x0E, 0x03, 0x08, 0x0D, 0x02, 0x07, 0x0C, 0x01, 0x06, 0x0B]
    ∧ invShiftRows knownKey = #v[0x00, 0x0D, 0x0A, 0x07, 0x04, 0x01, 0x0E, 0x0B, 0x08, 0x05, 0x02, 0x0F, 0x0C, 0x09, 0x06, 0x03] := by decide

/-- Section 5: MIXCOLUMNS of four columns, and INVMIXCOLUMNS of the unit vectors. -/
theorem test_mixColumns :
    mixColumns #v[0xDB, 0x13, 0x53, 0x45, 0xF2, 0x0A, 0x22, 0x5C, 0x01, 0x01, 0x01, 0x01, 0xC6, 0xC6, 0xC6, 0xC6]
      = #v[0x8E, 0x4D, 0xA1, 0xBC, 0x9F, 0xDC, 0x58, 0x9D, 0x01, 0x01, 0x01, 0x01, 0xC6, 0xC6, 0xC6, 0xC6]
    ∧ invMixColumn ⟨0x01, 0x00, 0x00, 0x00⟩ = ⟨0x0E, 0x09, 0x0D, 0x0B⟩
    ∧ invMixColumn ⟨0x00, 0x01, 0x00, 0x00⟩ = ⟨0x0B, 0x0E, 0x09, 0x0D⟩ := by decide

/-! ## The start states of 95_test_vectors.md section 7 -/

/-- The key loaded into KEY_IN in every start state. -/
def otherKey : Block := #v[0x2B, 0x7E, 0x15, 0x16, 0x28, 0xAE, 0xD2, 0xA6, 0xAB, 0xF7, 0x15, 0x88, 0x09, 0xCF, 0x4F, 0x3C]

/-- The corrupted key of section 7.4, which the code tells apart from the key of V1. -/
def corruptedKey : Block := knownKey.set 0 0x01

/-- A corrupted key that the code does not tell apart. -/
def collidingKey : Block := knownKey.set 0 0x02

/-- Parameters under which everything can happen, with an 8-bit code of the keys used. -/
def openParams : Params := ⟨true, true, true, 8, [(knownKey, 5), (otherKey, 7), (corruptedKey, 9), (collidingKey, 5)]⟩

/-- The default environment of section 7, with the answers to vary. -/
def answer (allocOk schedOk keyOk : Bool) : Env :=
  ⟨false, allocOk, ⟨schedOk, Vector.replicate 176 0xA5⟩, ⟨keyOk, Vector.replicate 16 0xA5⟩⟩

def unbound : State :=
  { State.reset with params := openParams, answers := [answer true true true], keyIn := otherKey, dataIn := knownPlain }

def empty : State := { unbound with bound := true, keysize := 16, blksize := 16, variant := 1, lastop := 1 }

def keyed : State :=
  { empty with rdy := true, sheld := true, k := knownKey, ic := 5, sched := keyExpansion knownKey, lastop := 2 }

/-- A ready object whose schedule is all zeros. -/
def zeroKeyed : State := { keyed with sched := zeroBytes 176 }

def held : State := { keyed with rdy := false, result := .invalidLength }

def faulted : State := { empty with fault := true, result := .notReady, lastop := 3, k := knownKey, ic := 5 }

def withAnswer (s : State) (e : Env) : State := { s with answers := [e] }

def nextOf (o : Host.Outcome State Fault Refusal) : Option State :=
  match o with
  | .next t => some t
  | .fault _ => none
  | .refused _ => none

/-- STATUS after one command word. -/
def statusAfter (w : BusWord) (s : State) : Option BusWord := (nextOf (execute w s)).map State.status

/-! ## One step of each command -/

/-- T1, and INFO of R29. -/
theorem test_create_unbound :
    (nextOf (exec (.create 0) unbound)).map (fun t => (t.status, t.info)) = some (0x00001001, 0x00011010) := by decide
/-- T9, T56, T33. -/
theorem test_create_errors :
    statusAfter 0x00000001 empty = some 0x00001701 ∧ statusAfter 0x000000F1 empty = some 0x00001101
    ∧ statusAfter 0x00000001 faulted = some 0x00001909 := by decide
/-- T18: a new key over an old one. -/
theorem test_setKey_keyed :
    (nextOf (exec (.setKey 0 16) keyed)).map (fun t => (t.status, t.k, t.ic, schedWord t.sched 4))
      = some (0x00002007, otherKey, 7, ⟨0xA0, 0xFA, 0xFE, 0x17⟩) := by decide +kernel
/-- T61, T81, T84. -/
theorem test_setKey_codes :
    statusAfter 0x00000002 keyed = some 0x00002205
    ∧ statusAfter 0x00001002 (withAnswer keyed (answer true false true)) = some 0x00002507
    ∧ statusAfter 0x00001002 (withAnswer keyed (answer false true true)) = some 0x00002405 := by decide
/-- T19. -/
theorem test_encrypt_keyed :
    (nextOf (exec (.encrypt 0 16) keyed)).map (fun t => (t.status, t.dataOut)) = some (0x00003007, knownCipher) := by decide +kernel
/-- T11, T53, T98. -/
theorem test_encrypt_codes :
    statusAfter 0x00001003 empty = some 0x00003809 ∧ statusAfter 0x0000FF03 empty = some 0x00003201
    ∧ statusAfter 0x00001003 { keyed with k := corruptedKey } = some 0x00003305 := by decide
/-- T20. -/
theorem test_decrypt_keyed :
    (nextOf (exec (.decrypt 0 16) keyed)).map (fun t => (t.status, t.dataOut))
      = some (0x00004007, #v[0x76, 0x2A, 0x5A, 0xB5, 0x09, 0x29, 0x18, 0x9C, 0xEF, 0xDB, 0x99, 0x43, 0x47, 0x90, 0xAA, 0xD8]) := by decide +kernel
/-- T28, T64, T99. -/
theorem test_decrypt_codes :
    statusAfter 0x00001004 held = some 0x0000480D ∧ statusAfter 0x00000004 keyed = some 0x00004207
    ∧ statusAfter 0x00001004 { keyed with k := corruptedKey } = some 0x00004305 := by decide
/-- T21 and FLAGS of R28. -/
theorem test_setMask_keyed :
    (nextOf (exec (.setMask 0) keyed)).map (fun t => (t.status, t.flags)) = some (0x00005007, 0x00000001) := by decide
/-- T5. -/
theorem test_setMask_unbound : statusAfter 0x00000005 unbound = some 0x00005100 := by decide
/-- T22 from a masked object. -/
theorem test_unmask_keyed :
    (nextOf (exec (.unmask 0) { keyed with masked := true })).map (fun t => (t.status, t.flags))
      = some (0x00006007, 0x00000000) := by decide
/-- T38. -/
theorem test_unmask_faulted : statusAfter 0x00000006 faulted = some 0x00006909 := by decide
/-- T23. -/
theorem test_deleteKeys_keyed :
    (nextOf (exec (.deleteKeys 0) keyed)).map (fun t => (t.status, t.sched[0], t.sched[175]))
      = some (0x00007001, 0xA5, 0xA5) := by decide
/-- T87, T90. -/
theorem test_deleteKeys_wipe_fails :
    (nextOf (exec (.deleteKeys 0) (withAnswer keyed (answer true false true)))).map (fun t => (t.status, t.sched[0], t.sched[175]))
      = some (0x00007501, 0x00, 0x00)
    ∧ statusAfter 0x00000007 (withAnswer empty (answer true false true)) = some 0x00007001 := by decide
/-- T24. -/
theorem test_destroy_keyed :
    (nextOf (exec (.destroy 0) keyed)).map (fun t => (t.status, t.info, t.k, t.ic, t.sched[0], t.sched[175]))
      = some (0x00008000, 0x00000000, Vector.replicate 16 0xA5, 0, 0xA5, 0xA5) := by decide
/-- T92, T95. -/
theorem test_destroy_wipe_fails :
    (nextOf (exec (.destroy 0) (withAnswer keyed (answer true true false)))).map (fun t => (t.status, t.k))
      = some (0x00008500, Vector.replicate 16 0x00)
    ∧ statusAfter 0x00000008 (withAnswer empty (answer true true false)) = some 0x00008500 := by decide
/-- T47, T60, T80: an illegal word executes nothing, and FAULT is tested first. -/
theorem test_illegal_words :
    statusAfter 0x00000000 unbound = some 0x00000600 ∧ statusAfter 0x80001003 empty = some 0x00003601
    ∧ statusAfter 0x80001003 faulted = some 0x00003909 := by decide

/-! ## One step of the bus (95_test_vectors.md section 8) -/

def withInput (s : State) (x : Input) : State := { s with inputs := [x] }

theorem test_read_status : (nextOf (step (withInput keyed (.read 0x04)))).map State.response = some (.value 0x00002007) := by decide
theorem test_read_data : (nextOf (step (withInput keyed (.read 0x20)))).map State.response = some (.value 0x33221100) := by decide
theorem test_read_keyIn : (nextOf (step (withInput keyed (.read 0x10)))).map State.response = some (.value 0) := by decide
theorem test_write_dataIn :
    (nextOf (step (withInput unbound (.write 0x2C 0x11223344)))).map State.dataIn
      = some #v[0x00, 0x11, 0x22, 0x33, 0x44, 0x55, 0x66, 0x77, 0x88, 0x99, 0xAA, 0xBB, 0x44, 0x33, 0x22, 0x11] := by decide
theorem test_write_readOnly :
    (nextOf (step (withInput keyed (.write 0x04 0xFFFFFFFF)))).map (fun t => (t.status, t.response)) = some (0x00002007, .done) := by decide
/-- R66: the five refused accesses of section 8. -/
theorem test_refused_accesses :
    (nextOf (step (withInput keyed (.oddWrite .w8 0x10)))).map State.response = some .busError
    ∧ (nextOf (step (withInput keyed (.oddRead .w16 0x04)))).map State.response = some .busError
    ∧ (nextOf (step (withInput keyed (.write 0x22 0x2B)))).map State.response = some .busError
    ∧ (nextOf (step (withInput keyed (.write 0x01 0x00001003)))).map (fun t => (t.response, t.status)) = some (.busError, 0x00002007)
    ∧ (nextOf (step (withInput keyed (.oddWrite .w64 0x20)))).map State.response = some .busError := by decide
theorem test_reset_event :
    (nextOf (step (withInput faulted .reset))).map (fun t => (t.status, t.info, t.k, t.keyIn))
      = some (0x00000000, 0x00000000, zeroBytes 16, zeroBytes 16) := by decide
/-- The host's own question: the first step after reset runs the table word. -/
theorem test_first_step_after_reset :
    (nextOf (step (State.reset.withFetchWord 32 0x00000001))).map (fun t => (t.status, t.info)) = some (0x00001001, 0x00011010)
    ∧ (nextOf (step (State.reset.withFetchWord 32 0x00001003))).map State.status = some 0x00003100 := by decide

/-! ## Witnesses: for every statement with hypotheses, states and operands that meet them together -/

theorem keyed_inv : Inv keyed := by constructor <;> decide
theorem unbound_inv : Inv unbound := by constructor <;> decide
theorem keyed_current : ScheduleCurrent keyed := by
  intro _
  exact ⟨rfl, by decide⟩

/-- Every command at both ends of its fields. -/
theorem witness_DecodeOfEncode :
    (Instr.create 0).wellFormed = true ∧ (Instr.create 15).wellFormed = true ∧ (Instr.setKey 0 0).wellFormed = true
    ∧ (Instr.setKey 15 255).wellFormed = true ∧ (Instr.encrypt 15 255).wellFormed = true
    ∧ (Instr.decrypt 15 255).wellFormed = true ∧ (Instr.setMask 15).wellFormed = true ∧ (Instr.unmask 15).wellFormed = true
    ∧ (Instr.deleteKeys 15).wellFormed = true ∧ (Instr.destroy 15).wellFormed = true := by decide
theorem witness_EncodeOfDecode : decode 0x0000FFF2 = .ok (.setKey 15 255) ∧ decode 0x000000F8 = .ok (.destroy 15) := ⟨rfl, rfl⟩
/-- One word for each way of being illegal, and a legal one. -/
theorem witness_IllegalWordExecutesNothing :
    IllegalWord 0x00010001 ∧ IllegalWord 0x00000000 ∧ IllegalWord 0x00000009 ∧ IllegalWord 0x0000000F
    ∧ IllegalWord 0x00000108 ∧ ¬ IllegalWord 0x0000FFF4 := by
  unfold IllegalWord
  decide
theorem witness_MultipliersAreLinearBijections : mulE ∈ [xtime, mul3, mul9, mulB, mulD, mulE] := by simp
theorem witness_KeyExpansionRecurrence : 4 ≤ (4 : Fin 44).val ∧ 4 ≤ (43 : Fin 44).val := by decide
theorem witness_AddRoundKeyIsInvolution :
    ∀ n : Fin 16, (Vector.replicate 176 0 : Schedule)[16 * (10 : Fin 11).val + n.val] = 0 := by simp
theorem witness_ResetEventErasesAll :
    (withInput faulted .reset).inputs = [Input.reset]
    ∧ step (withInput faulted .reset) = .next (faulted.withInputs []).onReset
    ∧ (Instr.encrypt 0 16).opcode ≠ 1 ∧ (withInput faulted .reset).fault = true
    ∧ (faulted.withInputs []).onReset.fault = false := ⟨rfl, rfl, by decide, rfl, rfl⟩
/-- The four registers and both ends of each buffer, read. -/
theorem witness_BusReadValues :
    (withInput keyed (.read 0x00)).inputs = [.read 0x00] ∧ (withInput keyed (.read 0x04)).inputs = [.read 0x04]
    ∧ (withInput keyed (.read 0x08)).inputs = [.read 0x08] ∧ (withInput keyed (.read 0x0C)).inputs = [.read 0x0C]
    ∧ (0x10 : BitVec 6) = BitVec.ofNat 6 (0x10 + 4 * (0 : Fin 4).val) ∧ (0x1C : BitVec 6) = BitVec.ofNat 6 (0x10 + 4 * (3 : Fin 4).val)
    ∧ (0x20 : BitVec 6) = BitVec.ofNat 6 (0x20 + 4 * (0 : Fin 4).val) ∧ (0x2C : BitVec 6) = BitVec.ofNat 6 (0x20 + 4 * (3 : Fin 4).val)
    ∧ (0x30 : BitVec 6) = BitVec.ofNat 6 (0x30 + 4 * (0 : Fin 4).val) ∧ (0x3C : BitVec 6) = BitVec.ofNat 6 (0x30 + 4 * (3 : Fin 4).val) := by
  decide
/-- The clauses of the two bus statements name sixteen different offsets: no offset falls under two of them. -/
theorem witness_BusWriteEffects :
    (withInput keyed (.write 0x00 0x00001003)).inputs = [.write 0x00 0x00001003]
    ∧ (withInput keyed (.write 0x3C 1)).inputs = [.write 0x3C 1]
    ∧ (([Reg.cmd, Reg.status, Reg.flags, Reg.info] ++ Script.words.map Reg.keyIn ++ Script.words.map Reg.dataIn
        ++ Script.words.map Reg.dataOut).map fun r => r.offset.toNat)
      = [0, 4, 8, 12, 16, 20, 24, 28, 32, 36, 40, 44, 48, 52, 56, 60] := ⟨rfl, rfl, by decide⟩
theorem witness_UnsupportedAccessRefused :
    (Input.read 0x3D).isAccess = true ∧ (Input.read 0x3D).supported = false
    ∧ (Input.oddWrite .w64 0x20).isAccess = true ∧ (Input.oddWrite .w64 0x20).supported = false
    ∧ (Input.write 0x3C 0).isAccess = true ∧ (Input.write 0x3C 0).supported = true
    ∧ (withInput keyed (.read 0x3D)).inputs = [.read 0x3D] := by decide
theorem witness_StepRunsDecodedCommand :
    (withInput keyed (.write 0x00 0x00001003)).inputs = [.write 0x00 0x00001003]
    ∧ decode 0x00001003 = .ok (.encrypt 0 16) ∧ (Instr.encrypt 0 16).wellFormed = true := ⟨rfl, rfl, rfl⟩
theorem witness_EveryInputCompletes :
    keyed.inputs = [] ∧ (withInput keyed (.corrupt corruptedKey)).inputs = [.corrupt corruptedKey]
    ∧ (Input.corrupt corruptedKey).isCorruption = true ∧ { keyed.params with admitCorruption := false }.admitCorruption = false
    ∧ keyed.params.admitCorruption = true ∧ Input.reset.isCorruption = false := ⟨rfl, rfl, rfl, rfl, rfl, rfl⟩
theorem witness_StatusFieldLayout :
    (withInput keyed (.read 0x04)).inputs = [.read 0x04] ∧ (withInput keyed (.write 0x04 1)).inputs = [.write 0x04 1] :=
  ⟨rfl, rfl⟩
theorem witness_DecodeMatchesOpcodeMap : decode 0x0000FFF2 = .ok (.setKey 15 255) := rfl
theorem witness_FlagsAndInfoValues : (Inv keyed ∧ keyed.bound = true) ∧ Inv unbound ∧ unbound.bound = false :=
  ⟨⟨keyed_inv, rfl⟩, unbound_inv, rfl⟩
theorem witness_PseudoInstructionsMoveBlocks :
    { keyed with inputs := Script.loadKey otherKey ++ [Input.reset] }.inputs = Script.loadKey otherKey ++ [Input.reset]
    ∧ { keyed with inputs := Script.loadBlk knownPlain ++ [] }.inputs = Script.loadBlk knownPlain ++ []
    ∧ { keyed with inputs := Script.clearKey ++ [] }.inputs = Script.clearKey ++ []
    ∧ { keyed with inputs := Script.readBlk ++ [] }.inputs = Script.readBlk ++ [] := ⟨rfl, rfl, rfl, rfl⟩
/-- One state and word for each test of the prologue. -/
theorem witness_PrologueStopsCommand :
    faulted.fault = true ∧ keyed.fault = false ∧ IllegalWord 0x00000107 ∧ ¬ IllegalWord 0x00001013
    ∧ (0x00001013 : BusWord).extractLsb' 4 4 ≠ 0 ∧ unbound.fault = false ∧ ¬ IllegalWord 0x00001003
    ∧ (0x00001003 : BusWord).extractLsb' 4 4 = 0 ∧ (0x00001003 : BusWord).extractLsb' 0 4 ≠ 1 ∧ unbound.bound = false := by
  unfold IllegalWord
  decide
theorem witness_CreateBindsObject :
    (1 : Nat) ≠ 0 ∧ (unbound.fault = false ∧ unbound.bound = false) ∧ empty.fault = false ∧ empty.bound = true := by decide
/-- An object that exists, with each answer SET_KEY can get, and lengths on both sides of 16. -/
theorem witness_SetKeyOutcomes :
    keyed.fault = false ∧ keyed.bound = true ∧ 15 ≠ 16 ∧ 17 ≠ 16
    ∧ (withAnswer keyed (answer false true true)).env.allocOk = false ∧ keyed.env.allocOk = true
    ∧ keyed.sheld = true ∧ (withAnswer keyed (answer true false true)).env.wipeSched.ok = false := by decide
theorem witness_ScheduleKeysOutcomes :
    icode keyed.params corruptedKey ≠ keyed.ic ∧ icode keyed.params keyed.k = keyed.ic
    ∧ (answer false true true).allocOk = false ∧ (answer true false true).allocOk = true := by decide
theorem witness_EncryptOutcomes :
    (keyed.fault = false ∧ keyed.bound = true ∧ keyed.rdy = true ∧ icode keyed.params keyed.k = keyed.ic)
    ∧ (held.fault = false ∧ held.bound = true ∧ held.rdy = false)
    ∧ icode keyed.params corruptedKey ≠ keyed.ic ∧ 15 ≠ 16 ∧ 255 ≠ 16 := by decide
theorem witness_DecryptOutcomes :
    (keyed.fault = false ∧ keyed.bound = true ∧ keyed.rdy = true ∧ icode keyed.params keyed.k = keyed.ic)
    ∧ (empty.fault = false ∧ empty.bound = true ∧ empty.rdy = false)
    ∧ icode keyed.params corruptedKey ≠ keyed.ic ∧ 0 ≠ 16 ∧ 17 ≠ 16 := by decide
theorem witness_MaskCommandsWriteFlag : keyed.fault = false ∧ keyed.bound = true := by decide
theorem witness_DeleteKeysWipesSchedule :
    keyed.fault = false ∧ keyed.bound = true ∧ keyed.sheld = true ∧ keyed.env.wipeSched.ok = true
    ∧ (withAnswer keyed (answer true false true)).env.wipeSched.ok = false
    ∧ empty.fault = false ∧ empty.bound = true ∧ empty.sheld = false := by decide
theorem witness_DestroyErasesKeyObject :
    keyed.fault = false ∧ keyed.bound = true ∧ keyed.sheld = true ∧ empty.fault = false ∧ empty.bound = true
    ∧ empty.sheld = false ∧ (withAnswer empty (answer true true false)).env.wipeKey.ok = false := by decide
theorem witness_StickyFaultFreezesCore :
    (held.fault = false ∧ held.bound = true ∧ held.rdy = false) ∧ faulted.fault = true
    ∧ step faulted = .next faulted ∧ faulted.inputs.head? ≠ some .reset
    ∧ ∃ t, exec (.encrypt 0 16) held = .next t ∧ t.fault = true := ⟨⟨rfl, rfl, rfl⟩, rfl, rfl, by decide, _, rfl, rfl⟩
theorem witness_MaskFlagIdempotent :
    keyed.fault = false ∧ keyed.bound = true ∧ Instr.decrypt 0 16 ∈ [Instr.encrypt 0 16, .decrypt 0 16] := by decide
theorem witness_RekeyForgetsOldKey :
    (∃ t, exec (.setKey 0 16) keyed = .next t ∧ t.result = .ok)
    ∧ ∃ t, exec (.setKey 0 16) (withAnswer keyed (answer true false true)) = .next t ∧ t.result = .wipeWarn :=
  ⟨⟨_, rfl, by decide⟩, _, rfl, by decide⟩
theorem witness_WrongKeyLengthRejected :
    keyed.fault = false ∧ keyed.bound = true ∧ 24 ≠ 16
    ∧ { keyed with params := { openParams with allocCanFail := false } }.params.allocCanFail = false := by decide
theorem witness_WipedStoresForgetContents :
    keyed.fault = false ∧ keyed.bound = true ∧ keyed.sheld = true := by decide
theorem witness_EncryptThenDecryptReturnsBlock :
    keyed.fault = false ∧ keyed.bound = true ∧ keyed.rdy = true ∧ icode keyed.params keyed.k = keyed.ic := by decide
theorem witness_StepKeepsInvariant :
    Inv keyed ∧ step keyed = .next keyed
    ∧ ∃ t, step (keyed.withFetchWord 32 0x00000008) = .next t := ⟨keyed_inv, rfl, _, rfl⟩
theorem witness_StepKeepsScheduleCurrent :
    ScheduleCurrent keyed ∧ (∀ x ∈ (keyed.withFetchWord 32 0x00001002).inputs.head?, x.isCorruption = false)
    ∧ ∃ t, step (keyed.withFetchWord 32 0x00001002) = .next t :=
  ⟨keyed_current, by decide, _, rfl⟩
theorem witness_LifecycleTransitions :
    (∃ t, step (withInput keyed .reset) = .next t) ∧ (withInput keyed .reset).inputs.head? = some .reset
    ∧ (∃ t, step (withInput keyed (.read 0x04)) = .next t)
    ∧ (withInput keyed (.read 0x04)).inputs.head? ≠ some .reset
    ∧ (withInput keyed (.read 0x04)).inputs.head?.bind Input.command = none :=
  ⟨⟨_, rfl⟩, rfl, ⟨_, rfl⟩, by decide, rfl⟩
theorem witness_DataOutWrittenOnlyBySuccess :
    ∃ t, step (zeroKeyed.withFetchWord 32 0x00001003) = .next t ∧ t.dataOut ≠ zeroKeyed.dataOut :=
  ⟨_, rfl, by decide +kernel⟩
theorem witness_SecretsWrittenOnlyByLifecycle :
    (∃ t, step (keyed.withFetchWord 32 0x00000008) = .next t ∧ t.k ≠ keyed.k ∧ t.ic ≠ keyed.ic ∧ t.sched ≠ keyed.sched)
    ∧ (keyed.withFetchWord 32 0x00000008).inputs.head? ≠ some .reset
    ∧ ∃ t, step (withInput keyed (.corrupt corruptedKey)) = .next t ∧ t.k ≠ keyed.k :=
  ⟨⟨_, rfl, by decide, by decide, by decide +kernel⟩, by decide, _, rfl, by decide⟩
theorem witness_BusReadsRevealNoSecret :
    (withInput keyed (.read 0x10)).inputs = [.read 0x10] ∧ (Input.read 0x10).isAccess = true
    ∧ (Input.read 0x10).command = none ∧ (Input.oddRead .w8 0x13).isAccess = true ∧ (Input.oddRead .w8 0x13).command = none :=
  ⟨rfl, rfl, rfl, rfl, rfl⟩
theorem witness_CorruptionEventDetected :
    (withInput keyed (.corrupt corruptedKey)).inputs = [.corrupt corruptedKey] ∧ keyed.params.admitCorruption = true
    ∧ keyed.fault = false ∧ keyed.bound = true ∧ keyed.rdy = true ∧ icode keyed.params corruptedKey ≠ keyed.ic
    ∧ icode keyed.params collidingKey = keyed.ic := by decide
theorem witness_NoIntegrityErrorWithoutCorruption : ScheduleCurrent keyed ∧ ScheduleCurrent empty :=
  ⟨keyed_current, fun h => by cases h⟩
theorem witness_ConstrainedAnswersNeverFail :
    { openParams with allocCanFail := false }.allocCanFail = false
    ∧ { openParams with wipeCanFail := false }.wipeCanFail = false := ⟨rfl, rfl⟩
theorem witness_StepKeepsParameters : ∃ t, step (withInput keyed .reset) = .next t := ⟨_, rfl⟩

end Sys2Proof.Tests.Slice0
end

section
/-! PROOFS of the family 10_state.md. The values at reset (R46), one step of the bus at a register's offset (R62, R63),
and STATUS bit by bit (R27). -/

namespace Sys2Proof.Machine

/-! ## The registers at reset -/

@[simp] theorem State.reset_status : State.reset.status = 0 := by decide

@[simp] theorem State.reset_flags : State.reset.flags = 0 := by decide

@[simp] theorem State.reset_info : State.reset.info = 0 := by decide

@[simp] theorem State.reset_lifecycle : State.reset.lifecycle = .unbound := rfl

/-- Settles O19: each field of `State.reset` is the literal of R46's table, and the registers are assembled from them. -/
theorem resetStateValues : Obligations.ResetStateValues := by
  unfold Obligations.ResetStateValues
  exact ⟨rfl, rfl, rfl, rfl, rfl, rfl, rfl, rfl, rfl, rfl, rfl, rfl, rfl, rfl, rfl, rfl, rfl,
    State.reset_status, State.reset_flags, State.reset_info, State.reset_lifecycle⟩

/-! ## One step of the bus at a register's offset -/

/-- A step delivers the first pending input (R70). -/
theorem step_of_inputs {s : State} {x : Input} {rest : List Input} (h : s.inputs = x :: rest) :
    step s = deliver x (s.withInputs rest) := by
  simp only [step, takeInput, h]

@[simp] theorem busRead_withInputs (r : Reg) (s : State) (rest : List Input) :
    busRead r (s.withInputs rest) = busRead r s := by
  cases r <;> rfl

/-- A read at a register's offset answers the register and changes no state (R62). -/
theorem step_read_offset {s : State} (r : Reg) {rest : List Input} (h : s.inputs = .read r.offset :: rest) :
    step s = .next { s with inputs := rest, response := .value (busRead r s) } := by
  rw [step_of_inputs h]
  simp only [deliver, regAt_offset, busRead_withInputs]
  rfl

/-- A write at a register's offset is the write of that register, and the bus completes it (R63). -/
theorem step_write_offset {s : State} (r : Reg) {v : BusWord} {rest : List Input}
    (h : s.inputs = .write r.offset v :: rest) :
    step s = busWrite r v { s with inputs := rest, response := .done } := by
  rw [step_of_inputs h]
  simp only [deliver, regAt_offset]
  rfl

/-! ## STATUS bit by bit -/

theorem bit32_getLsbD (b : Bool) (i : Nat) : (bit32 b).getLsbD i = (decide (i = 0) && b) := by
  cases i with
  | zero => simp [bit32]
  | succ n => simp [bit32]

/-- Every bit of STATUS: the four flags at 0 to 3, the result code from 8, LASTOP from 12, and nothing else (R27). -/
theorem status_getLsbD (s : State) (i : Nat) (h : i < 32) :
    s.status.getLsbD i
      = ((decide (i = 0) && s.bound) || (decide (i = 1) && s.rdy) || (decide (i = 2) && s.sheld)
        || (decide (i = 3) && s.fault) || (decide (8 ≤ i) && s.result.code.getLsbD (i - 8))
        || (decide (12 ≤ i) && s.lastop.getLsbD (i - 12))) := by
  simp only [State.status, BitVec.getLsbD_or, BitVec.getLsbD_shiftLeft, BitVec.getLsbD_setWidth, bit32_getLsbD]
  interval_cases i <;> simp

theorem status_flag_bits (s : State) :
    s.status.getLsbD 0 = s.bound ∧ s.status.getLsbD 1 = s.rdy ∧ s.status.getLsbD 2 = s.sheld
    ∧ s.status.getLsbD 3 = s.fault := by
  refine ⟨?_, ?_, ?_, ?_⟩ <;> rw [status_getLsbD _ _ (by decide)] <;> simp

theorem status_fields (s : State) :
    s.status.extractLsb' 4 4 = 0 ∧ s.status.extractLsb' 8 4 = s.result.code
    ∧ s.status.extractLsb' 12 4 = s.lastop ∧ s.status.extractLsb' 16 16 = 0 := by
  refine ⟨?_, ?_, ?_, ?_⟩ <;> ext i hi <;> rw [BitVec.getElem_extractLsb', status_getLsbD _ _ (by omega)]
    <;> interval_cases i <;> simp

/-- Settles O27: STATUS is a register of the window whose write is ignored, and its bits are read off one by one. -/
theorem statusFieldLayout : Obligations.StatusFieldLayout := by
  unfold Obligations.StatusFieldLayout
  intro s
  obtain ⟨hbound, hrdy, hsheld, hfault⟩ := status_flag_bits s
  exact ⟨fun _ h => step_read_offset .status h, fun _ _ h => step_write_offset .status h,
    hbound, hrdy, hsheld, hfault, status_fields s⟩

end Sys2Proof.Machine
end

section
/-! PROOFS of the family 20_memory.md. One step of the bus at each of the sixteen offsets (R62, R63), the byte lanes of
a bus word (R64), and which accesses the bus refuses (R66). -/

namespace Sys2Proof.Machine

/-! ## Reads of the window -/

/-- Settles O21: every offset named is a register's, and a read there answers the register. -/
theorem busReadValues : Obligations.BusReadValues := by
  unfold Obligations.BusReadValues
  intro s rest off h
  have read (r : Reg) (hoff : off = r.offset) := step_read_offset r (hoff ▸ h)
  exact ⟨read .cmd, read .status, read .flags, read .info,
    fun w => ⟨read (.keyIn w), read (.dataIn w), read (.dataOut w)⟩⟩

/-! ## Byte lanes -/

/-- Each byte after a write of word w: a lane of the value inside the word, the old byte outside it (R63). -/
theorem unpack_get (x : Block) (w : Fin 4) (v : BusWord) (n : Fin 16) :
    (unpack x w v)[n.val] = if n.val / 4 = w.val then v.extractLsb' (8 * (n.val % 4)) 8 else x[n.val] := by
  simp only [unpack, Vector.getElem_set]
  by_cases hw : n.val / 4 = w.val
  · have hj : n.val % 4 < 4 := Nat.mod_lt _ (by decide)
    have hn : n.val = 4 * w.val + n.val % 4 := by omega
    rw [if_pos hw]
    generalize n.val % 4 = j at hj hn ⊢
    interval_cases j <;> simp [hn]
  · rw [if_neg hw, if_neg (by omega), if_neg (by omega), if_neg (by omega), if_neg (by omega)]

/-- Byte 4w + j after a write of word w is lane j of the value (R64). -/
theorem unpack_lane (x : Block) (w j : Fin 4) (v : BusWord) :
    (unpack x w v)[4 * w.val + j.val] = v.extractLsb' (8 * j.val) 8 := by
  have hdiv : (4 * w.val + j.val) / 4 = w.val := by omega
  have hmod : (4 * w.val + j.val) % 4 = j.val := by omega
  simpa only [hdiv, hmod, if_true] using unpack_get x w v ⟨4 * w.val + j.val, by omega⟩

/-- A byte moved to lane i of a bus word is that lane, and leaves the other lanes 0. -/
theorem lane_of_byte (b : Byte) (i j : Fin 4) :
    (b.setWidth 32 <<< (8 * i.val)).extractLsb' (8 * j.val) 8 = if j = i then b else 0#8 := by
  ext n hn
  simp only [BitVec.getElem_extractLsb', BitVec.getLsbD_shiftLeft, BitVec.getLsbD_setWidth]
  obtain hlt | rfl | hgt := lt_trichotomy j i
  · have : 8 * j.val + n < 8 * i.val := by omega
    simp [hlt.ne, this]
  · have : 8 * j.val + n < 32 := by omega
    simp [this, hn, show n < 32 by omega]
  · have : 8 ≤ 8 * j.val + n - 8 * i.val := by omega
    simp [hgt.ne', this]

/-- Lane j of bus word w is byte 4w + j (R64). -/
theorem pack_lane (x : Block) (w j : Fin 4) : (pack x w).extractLsb' (8 * j.val) 8 = x[4 * w.val + j.val] := by
  have hpack : pack x w = x[4 * w.val].setWidth 32 <<< (8 * (0 : Fin 4).val)
      ||| x[4 * w.val + 1].setWidth 32 <<< (8 * (1 : Fin 4).val)
      ||| x[4 * w.val + 2].setWidth 32 <<< (8 * (2 : Fin 4).val)
      ||| x[4 * w.val + 3].setWidth 32 <<< (8 * (3 : Fin 4).val) := by simp [pack]
  rw [hpack]
  simp only [BitVec.extractLsb'_or, lane_of_byte]
  fin_cases j <;> simp

/-- Two bus words with the same four lanes are equal. -/
theorem busWord_ext_lane {u v : BusWord}
    (h : ∀ j : Fin 4, u.extractLsb' (8 * j.val) 8 = v.extractLsb' (8 * j.val) 8) : u = v := by
  refine BitVec.eq_of_getLsbD_eq fun i hi => ?_
  have hbit := congrArg (fun b : Byte => b.getLsbD (i % 8)) (h ⟨i / 8, by omega⟩)
  simpa [BitVec.getLsbD_extractLsb', Nat.div_add_mod, Nat.mod_lt] using hbit

/-- A bus word written is the bus word read back (R62, R63). -/
theorem pack_unpack (x : Block) (w : Fin 4) (v : BusWord) : pack (unpack x w v) w = v :=
  busWord_ext_lane fun j => (pack_lane _ w j).trans (unpack_lane x w j v)

/-- Settles O23: reads and writes move byte 4w + j in the same lane. -/
theorem byteLanesLittleEndian : Obligations.ByteLanesLittleEndian := by
  unfold Obligations.ByteLanesLittleEndian
  exact ⟨pack_lane, pack_unpack, by decide⟩

/-! ## Writes of the window -/

/-- Settles O22: every offset named is a register's, a write there is `busWrite` of the register, and a buffer's write
moves the four bytes of `unpack_get`. -/
theorem busWriteEffects : Obligations.BusWriteEffects := by
  unfold Obligations.BusWriteEffects
  refine ⟨?_, unpack_get⟩
  intro s rest off v h
  have write (r : Reg) (hoff : off = r.offset) := step_write_offset r (hoff ▸ h)
  refine ⟨write .cmd, ?_, fun w => ⟨write (.keyIn w), write (.dataIn w), write (.dataOut w)⟩⟩
  rintro (hstatus | hflags | hinfo)
  · exact write .status hstatus
  · exact write .flags hflags
  · exact write .info hinfo

/-! ## What no command writes -/

/-- The part of the state that no command writes: the host's buffers (R22, R23), and the model's parameters, pending
inputs and bus answer (R44, R70). -/
structure HostSide where
  keyIn : Block
  dataIn : Block
  params : Params
  inputs : List Input
  response : Response

/-- The host's side of a state. -/
def State.hostSide (s : State) : HostSide := ⟨s.keyIn, s.dataIn, s.params, s.inputs, s.response⟩

theorem createObject_hostSide (e : Env) (s : State) : (createObject e s).1.hostSide = s.hostSide := by
  obtain ⟨-, h⟩ | ⟨-, h⟩ := createObject_cases e s <;>
    exact congrArg (·.1.hostSide) h

theorem setKey_hostSide (len : Nat) (e : Env) (s : State) : (setKey len e s).1.hostSide = s.hostSide := by
  obtain ⟨-, h⟩ | ⟨-, -, h⟩ | ⟨-, -, h⟩ := setKey_cases len e s <;>
    exact congrArg (·.1.hostSide) h

theorem blockCommand_hostSide (f : Schedule → Block → Block) (len : Nat) (e : Env) (s : State) :
    (blockCommand f len e s).1.hostSide = s.hostSide := by
  obtain ⟨-, h⟩ | ⟨-, -, h⟩ | ⟨-, -, -, h⟩ | ⟨-, -, -, h⟩ := blockCommand_cases f len e s <;>
    exact congrArg (·.1.hostSide) h

theorem deleteKeysCmd_hostSide (e : Env) (s : State) : (deleteKeysCmd e s).1.hostSide = s.hostSide := by
  obtain ⟨-, h⟩ | ⟨-, h⟩ := deleteKeysCmd_cases e s <;>
    exact congrArg (·.1.hostSide) h

theorem destroyObject_hostSide (e : Env) (s : State) : (destroyObject e s).1.hostSide = s.hostSide := by
  obtain ⟨-, h⟩ | ⟨-, h⟩ := destroyObject_cases e s <;>
    exact congrArg (·.1.hostSide) h

/-- A command keeps the host's side if its own function does. -/
theorem runCommand_hostSide {body : Env → State → State × ResultCode}
    (hbody : ∀ e s, (body e s).1.hostSide = s.hostSide) (opc : BitVec 4) (kobj : Nat) (s : State) :
    (runCommand opc kobj body s).hostSide = s.hostSide := by
  obtain ⟨c, -, h⟩ | ⟨-, -, -, h⟩ := runCommand_cases opc kobj body s
  · rw [h]; rfl
  · rw [h]; exact hbody s.env (s.useAnswers.logOp opc)

/-- Every command completes and keeps the host's side. -/
theorem exec_hostSide (i : Instr) (s : State) : ∃ t, exec i s = .next t ∧ t.hostSide = s.hostSide := by
  cases i with
  | create kobj => exact ⟨_, rfl, runCommand_hostSide createObject_hostSide 1 kobj s⟩
  | setKey kobj len => exact ⟨_, rfl, runCommand_hostSide (setKey_hostSide len) 2 kobj s⟩
  | encrypt kobj len => exact ⟨_, rfl, runCommand_hostSide (blockCommand_hostSide _ len) 3 kobj s⟩
  | decrypt kobj len => exact ⟨_, rfl, runCommand_hostSide (blockCommand_hostSide _ len) 4 kobj s⟩
  | setMask kobj => exact ⟨_, rfl, runCommand_hostSide (fun _ _ => rfl) 5 kobj s⟩
  | unmask kobj => exact ⟨_, rfl, runCommand_hostSide (fun _ _ => rfl) 6 kobj s⟩
  | deleteKeys kobj => exact ⟨_, rfl, runCommand_hostSide deleteKeysCmd_hostSide 7 kobj s⟩
  | destroy kobj => exact ⟨_, rfl, runCommand_hostSide destroyObject_hostSide 8 kobj s⟩

/-- Every word written to CMD completes and keeps the host's side, whether it is legal or not (R99). -/
theorem execute_hostSide (v : BusWord) (s : State) : ∃ t, execute v s = .next t ∧ t.hostSide = s.hostSide := by
  unfold execute
  cases decode v with
  | ok i => exact exec_hostSide i s
  | error _ => exact ⟨_, rfl, rfl⟩

/-! ## Refused and supported accesses -/

/-- A write of a register completes and leaves the bus's answer as it is. -/
theorem busWrite_response (r : Reg) (v : BusWord) (s : State) :
    ∃ t, busWrite r v s = .next t ∧ t.response = s.response := by
  obtain ⟨-, h⟩ | ⟨w, -, h⟩ | ⟨w, -, h⟩ | ⟨-, h⟩ := busWrite_cases r v s <;> rw [h]
  · obtain ⟨t, ht, hside⟩ := execute_hostSide v s
    exact ⟨t, ht, congrArg HostSide.response hside⟩
  all_goals exact ⟨_, rfl, rfl⟩

/-- An aligned offset is a register's (R61). -/
theorem exists_offset_eq {off : BitVec 6} (h : off.toNat % 4 = 0) : ∃ r : Reg, off = r.offset := by
  have hne : regAt off ≠ none := fun hnone => (regAt_eq_none_iff off).mp hnone h
  obtain ⟨r, hr⟩ := Option.ne_none_iff_exists'.mp hne
  exact ⟨r, (offset_of_regAt off r hr).symm⟩

/-- The supported accesses are 32-bit reads and writes of registers (R66). -/
theorem register_of_supported {x : Input} (h : x.supported = true) :
    ∃ r : Reg, x = .read r.offset ∨ ∃ v, x = .write r.offset v := by
  cases x with
  | read off =>
    obtain ⟨r, rfl⟩ := exists_offset_eq (of_decide_eq_true h)
    exact ⟨r, .inl rfl⟩
  | write off v =>
    obtain ⟨r, rfl⟩ := exists_offset_eq (of_decide_eq_true h)
    exact ⟨r, .inr ⟨v, rfl⟩⟩
  | oddRead | oddWrite | reset | corrupt => cases h

/-- The bus refuses an access that it does not support, and changes nothing (R66). -/
theorem deliver_unsupported {x : Input} (hacc : x.isAccess = true) (hsup : x.supported = false) (s : State) :
    deliver x s = .next (s.respond .busError) := by
  cases x with
  | read off | write off v =>
    have hnone : regAt off = none := (regAt_eq_none_iff off).mpr (of_decide_eq_false hsup)
    simp only [deliver, hnone]
  | oddRead | oddWrite => rfl
  | reset | corrupt => cases hacc

/-- A supported access completes and is never answered with a bus error (R66). -/
theorem step_supported {s : State} {x : Input} {rest : List Input} (h : s.inputs = x :: rest)
    (hsup : x.supported = true) : ∃ t, step s = .next t ∧ t.response ≠ .busError := by
  obtain ⟨r, rfl | ⟨v, rfl⟩⟩ := register_of_supported hsup
  · exact ⟨_, step_read_offset r h, nofun⟩
  · obtain ⟨t, ht, hresp⟩ := busWrite_response r v { s with inputs := rest, response := .done }
    exact ⟨t, (step_write_offset r h).trans ht, hresp ▸ nofun⟩

/-- Settles O24: an unsupported access is refused before any register is looked at, and a supported one is a register's
read or write, which completes. -/
theorem unsupportedAccessRefused : Obligations.UnsupportedAccessRefused := by
  unfold Obligations.UnsupportedAccessRefused
  intro s x rest h hacc
  exact ⟨fun hsup => (step_of_inputs h).trans (deliver_unsupported hacc hsup _), step_supported h⟩

end Sys2Proof.Machine
end

section
/-! PROOFS of the family 30_encoding.md. The decoder by the fields of the word: which words it accepts as which command
(R90, R91), the opcode map's masks as conditions on those fields (R93), and the words it refuses (R94). -/

namespace Sys2Proof

/-! ## The decoder by fields -/

/-- The decoder reads a command without a length exactly where the LEN field is 0 (R90, R94). -/
theorem withoutLength_eq_ok_iff (w : BusWord) (i j : Instr) :
    withoutLength w i = .ok j ↔ lenField w = 0 ∧ i = j := by
  by_cases h : lenField w = 0 <;> simp [withoutLength, h]

theorem withoutLength_eq_error_iff (w : BusWord) (i : Instr) :
    (∃ r, withoutLength w i = .error r) ↔ lenField w ≠ 0 := by
  by_cases h : lenField w = 0 <;> simp [withoutLength, h]

/-- A word with a reserved bit set is refused first (R94). -/
theorem decode_of_rsvField_ne_zero {w : BusWord} (h : rsvField w ≠ 0) : decode w = .error .reservedBits :=
  if_pos h

/-- The assigned opcodes are 1 to 8 (R93). -/
theorem Instr.opcode_bounds (i : Instr) : 1 ≤ i.opcode.toNat ∧ i.opcode.toNat ≤ 8 := by
  cases i <;> simp [Instr.opcode]

/-- A word decodes to a command exactly when RSV is 0 and OPC, KOBJ and LEN are the command's (R91, R93, R94). -/
theorem decode_eq_ok_iff (w : BusWord) (i : Instr) :
    decode w = .ok i ↔
      rsvField w = 0 ∧ opcField w = i.opcode ∧ kobjField w = i.kobj ∧ lenField w = i.lenOperand := by
  by_cases hrsv : rsvField w = 0
  · rw [decode, if_neg (not_not.mpr hrsv), BitVec.toNat_eq (x := opcField w)]
    split
    case h_1 h | h_5 h | h_6 h | h_7 h | h_8 h =>
      rw [withoutLength_eq_ok_iff, h]
      cases i <;> simp [hrsv, Instr.opcode, Instr.kobj, Instr.lenOperand, and_comm]
    case h_2 h | h_3 h | h_4 h =>
      rw [h]
      cases i <;> simp [hrsv, Instr.opcode, Instr.kobj, Instr.lenOperand]
    case h_9 =>
      simp only [imp_false] at *
      have hopc : (opcField w).toNat ≠ i.opcode.toNat := by have := i.opcode_bounds; omega
      exact iff_of_false nofun fun ⟨_, h, _⟩ => hopc h
  · rw [decode_of_rsvField_ne_zero hrsv]
    exact iff_of_false nofun fun ⟨h, _⟩ => hrsv h

/-! ## The masks of the opcode map -/

/-- The word of four fields, as R93's pattern column writes it: RSV, LEN, KOBJ, OPC from bit 31 down. -/
def wordOfFields (rsv : BitVec 16) (len : BitVec 8) (kobj opc : BitVec 4) : BusWord := rsv ++ len ++ kobj ++ opc

/-- A command word is its four fields (R90, R91). -/
theorem wordOfFields_eq_self (w : BusWord) :
    wordOfFields (rsvField w) (w.extractLsb' 8 8) (w.extractLsb' 4 4) (opcField w) = w := by
  have hlen : rsvField w ++ w.extractLsb' 8 8 = w.extractLsb' 8 24 :=
    BitVec.extractLsb'_append_extractLsb'_eq_extractLsb' rfl
  have hkobj : w.extractLsb' 8 24 ++ w.extractLsb' 4 4 = w.extractLsb' 4 28 :=
    BitVec.extractLsb'_append_extractLsb'_eq_extractLsb' rfl
  have hopc : w.extractLsb' 4 28 ++ opcField w = w.extractLsb' 0 32 :=
    BitVec.extractLsb'_append_extractLsb'_eq_extractLsb' rfl
  rw [wordOfFields, hlen, hkobj, hopc, BitVec.extractLsb'_eq_self]

theorem wordOfFields_and (r r' : BitVec 16) (l l' : BitVec 8) (k k' o o' : BitVec 4) :
    wordOfFields r l k o &&& wordOfFields r' l' k' o' = wordOfFields (r &&& r') (l &&& l') (k &&& k') (o &&& o') := by
  unfold wordOfFields
  rw [← BitVec.and_append, ← BitVec.and_append, ← BitVec.and_append]

theorem append_eq_append_iff {m n : Nat} {a a' : BitVec m} {b b' : BitVec n} :
    a ++ b = a' ++ b' ↔ a = a' ∧ b = b' := by
  refine ⟨fun h => ⟨?_, ?_⟩, fun ⟨ha, hb⟩ => by rw [ha, hb]⟩
  · simpa only [BitVec.extractLsb'_append_eq_left] using congrArg (BitVec.extractLsb' n m) h
  · simpa only [BitVec.extractLsb'_append_eq_right] using congrArg (BitVec.extractLsb' 0 n) h

theorem wordOfFields_inj {r r' : BitVec 16} {l l' : BitVec 8} {k k' o o' : BitVec 4} :
    wordOfFields r l k o = wordOfFields r' l' k' o' ↔ r = r' ∧ l = l' ∧ k = k' ∧ o = o' := by
  unfold wordOfFields
  rw [append_eq_append_iff, append_eq_append_iff, append_eq_append_iff, and_assoc, and_assoc]

theorem lenField_eq_zero_iff (w : BusWord) : lenField w = 0 ↔ w.extractLsb' 8 8 = 0 := by
  rw [lenField, BitVec.toNat_eq]
  rfl

/-- The mask of the commands without a length covers RSV, LEN and OPC (R93). -/
theorem and_noLengthMask_eq_iff (w : BusWord) (opc : BitVec 4) :
    w &&& 0xFFFFFF0F = wordOfFields 0 0 0 opc ↔ rsvField w = 0 ∧ opcField w = opc ∧ lenField w = 0 := by
  have hmask : 0xFFFFFF0F = wordOfFields (BitVec.allOnes 16) (BitVec.allOnes 8) 0#4 (BitVec.allOnes 4) := rfl
  have hand : w &&& 0xFFFFFF0F = wordOfFields (rsvField w) (w.extractLsb' 8 8) 0#4 (opcField w) := by
    conv_lhs => rw [← wordOfFields_eq_self w, hmask, wordOfFields_and]
    simp only [BitVec.and_allOnes, BitVec.and_zero]
  rw [hand, wordOfFields_inj, lenField_eq_zero_iff]
  tauto

/-- The mask of the commands with a length covers RSV and OPC (R93). -/
theorem and_lengthMask_eq_iff (w : BusWord) (opc : BitVec 4) :
    w &&& 0xFFFF000F = wordOfFields 0 0 0 opc ↔ rsvField w = 0 ∧ opcField w = opc := by
  have hmask : 0xFFFF000F = wordOfFields (BitVec.allOnes 16) 0#8 0#4 (BitVec.allOnes 4) := rfl
  have hand : w &&& 0xFFFF000F = wordOfFields (rsvField w) 0#8 0#4 (opcField w) := by
    conv_lhs => rw [← wordOfFields_eq_self w, hmask, wordOfFields_and]
    simp only [BitVec.and_allOnes, BitVec.and_zero]
  rw [hand, wordOfFields_inj]
  tauto

/-- A word decodes to a command without a length and the word's KOBJ exactly when its masked bits match (R93). -/
theorem decode_eq_ok_iff_noLengthMask {w : BusWord} {i : Instr} {opc : BitVec 4} (hopc : i.opcode = opc)
    (hkobj : i.kobj = kobjField w) (hlen : i.lenOperand = 0) :
    decode w = .ok i ↔ w &&& 0xFFFFFF0F = wordOfFields 0 0 0 opc := by
  rw [decode_eq_ok_iff, and_noLengthMask_eq_iff, hopc, hkobj, hlen]
  simp only [true_and]

/-- As above, for a command with the word's KOBJ and LEN (R93). -/
theorem decode_eq_ok_iff_lengthMask {w : BusWord} {i : Instr} {opc : BitVec 4} (hopc : i.opcode = opc)
    (hkobj : i.kobj = kobjField w) (hlen : i.lenOperand = lenField w) :
    decode w = .ok i ↔ w &&& 0xFFFF000F = wordOfFields 0 0 0 opc := by
  rw [decode_eq_ok_iff, and_lengthMask_eq_iff, hopc, hkobj, hlen]
  simp only [and_true]

/-- Settles O4: each command's mask covers the fields that `decode_eq_ok_iff` constrains, and no operand bit. -/
theorem decodeMatchesOpcodeMap : Obligations.DecodeMatchesOpcodeMap := by
  unfold Obligations.DecodeMatchesOpcodeMap
  refine ⟨fun w => ?_, by decide⟩
  have noLength (i : Instr) (opc : BitVec 4) := decode_eq_ok_iff_noLengthMask (w := w) (i := i) (opc := opc)
  have length (i : Instr) (opc : BitVec 4) := decode_eq_ok_iff_lengthMask (w := w) (i := i) (opc := opc)
  refine ⟨noLength (.create _) 1 rfl rfl rfl, length (.setKey _ _) 2 rfl rfl rfl,
    length (.encrypt _ _) 3 rfl rfl rfl, length (.decrypt _ _) 4 rfl rfl rfl, noLength (.setMask _) 5 rfl rfl rfl,
    noLength (.unmask _) 6 rfl rfl rfl, noLength (.deleteKeys _) 7 rfl rfl rfl, noLength (.destroy _) 8 rfl rfl rfl,
    fun i h => ?_⟩
  obtain ⟨-, -, hkobj, hlen⟩ := (decode_eq_ok_iff w i).mp h
  exact ⟨hkobj.symm, hlen.symm⟩

end Sys2Proof

namespace Sys2Proof.Machine

/-! ## Illegal words -/

/-- On a word without reserved bits: its opcode is not assigned, or its length is not 0 where none is taken (R94). -/
theorem illegalWord_iff_of_rsvField {w : BusWord} (h : rsvField w = 0) :
    IllegalWord w ↔ opcField w = 0 ∨ 9 ≤ (opcField w).toNat
      ∨ (opcField w ∈ [(1 : BitVec 4), 5, 6, 7, 8] ∧ lenField w ≠ 0) := by
  rw [ne_eq, lenField_eq_zero_iff]
  exact or_iff_right fun hne => hne h

/-- The decoder refuses exactly the illegal words (R94, R99). -/
theorem decode_eq_error_iff (w : BusWord) : (∃ r, decode w = .error r) ↔ IllegalWord w := by
  by_cases hrsv : rsvField w = 0
  · rw [illegalWord_iff_of_rsvField hrsv, decode, if_neg (not_not.mpr hrsv)]
    generalize opcField w = opc
    split
    case h_1 h | h_5 h | h_6 h | h_7 h | h_8 h =>
      simp [withoutLength_eq_error_iff, BitVec.toNat_eq, h]
    case h_2 h | h_3 h | h_4 h => simp [BitVec.toNat_eq, h]
    case h_9 =>
      simp only [imp_false] at *
      have hunassigned : opc.toNat = 0 ∨ 9 ≤ opc.toNat := by omega
      exact iff_of_true ⟨_, rfl⟩ (hunassigned.imp BitVec.eq_of_toNat_eq .inl)
  · exact iff_of_true ⟨_, decode_of_rsvField_ne_zero hrsv⟩ (.inl hrsv)

/-- An illegal word writes LASTOP and RESULT and nothing else of the spec's state (R94, R245). -/
theorem illegalCommand_eq (w : BusWord) (s : State) :
    illegalCommand w s = s.concluded (opcField w) (if s.fault then .faulted else .illegalCmd) := rfl

/-- A word that the decoder refuses executes nothing (R99). -/
theorem execute_of_decode_error {w : BusWord} {r : Reject} (h : decode w = .error r) (s : State) :
    execute w s = .next (illegalCommand w s) := by
  simp only [execute, h]

/-- Settles O5: the decoder's error cases are R94's, and on an error the command ends with what every command writes. -/
theorem illegalWordExecutesNothing : Obligations.IllegalWordExecutesNothing := by
  unfold Obligations.IllegalWordExecutesNothing
  refine ⟨decode_eq_error_iff, fun w s h => ?_⟩
  obtain ⟨r, hr⟩ := (decode_eq_error_iff w).mpr h
  exact (execute_of_decode_error hr s).trans (congrArg _ (illegalCommand_eq w s))

end Sys2Proof.Machine
end

section
/-! PROOFS of the family 40_gf_arithmetic.md. The doubling of the GF(2^8) multiplier (R111). -/

namespace Sys2Proof.Machine

/-- Doubling is the shift within 8 bits, reduced by 0x1B when bit 7 falls off (R111). -/
theorem xtime_eq (x : Byte) : xtime x = (x <<< 1) ^^^ (if x.getLsbD 7 then 0x1B else 0x00) := rfl

/-- Settles O6: R111's formula is `xtime_eq`, and the corner cases and examples are evaluated. -/
theorem xtimeDoublesAndReduces : Obligations.XtimeDoublesAndReduces := by
  unfold Obligations.XtimeDoublesAndReduces
  exact ⟨xtime_eq, by decide⟩

end Sys2Proof.Machine
end

section
/-! PROOFS of the family 42_key_expansion.md. Round key 0 (R142) and the recurrence of the schedule's words (R146,
R147). -/

namespace Sys2Proof.Machine

/-! ## Round key 0 -/

/-- Words 0 to 3 of the schedule are the key's columns (R142). -/
theorem scheduleWord_of_lt_four (key : Block) (c : Fin 4) : scheduleWord key c.val = column key c := by
  fin_cases c <;> rfl

/-- A column holds four consecutive bytes of its block (R11). -/
theorem byteOf_column (s : Block) (c j : Fin 4) : byteOf (column s c) j = s[4 * c.val + j.val] := by
  fin_cases j <;> rfl

/-- The schedule begins with the key (R142). -/
theorem keyExpansion_get_key (key : Block) (n : Fin 16) : (keyExpansion key)[n.val] = key[n] := by
  have hword := scheduleWord_of_lt_four key ⟨n.val / 4, by omega⟩
  simp only [keyExpansion, Vector.getElem_ofFn, hword, byteOf_column, Nat.div_add_mod, Fin.getElem_fin]

/-! ## The recurrence -/

/-- After j turns the window holds W(j) to W(j+3) (R148). -/
theorem windowAt_eq (key : Block) (j : Nat) :
    windowAt key j =
      ⟨scheduleWord key j, scheduleWord key (j + 1), scheduleWord key (j + 2), scheduleWord key (j + 3)⟩ := by
  induction j with
  | zero => rfl
  | succ j ih =>
    have hnewest : scheduleWord key (j + 4) = (windowAt key (j + 1)).w3 := if_neg (by omega)
    obtain ⟨h0, h1, h2, -⟩ := windowAt_succ key j
    simp only [ih] at h0 h1 h2
    rw [← h0, ← h1, ← h2, hnewest]

/-- W(i) = W(i-4) xor T, for every word after the key's (R146, R147). -/
theorem scheduleWord_add_four (key : Block) (j : Nat) :
    scheduleWord key (j + 4) = xorWord (scheduleWord key j) (tempWord (scheduleWord key (j + 3)) (j + 4)) := by
  obtain ⟨-, -, -, h3⟩ := windowAt_succ key j
  simpa only [windowAt_eq] using h3

/-- The recurrence read off the schedule's bytes (R141, R146, R147). -/
theorem schedWord_keyExpansion_recurrence (key : Block) (i : Fin 44) (h : 4 ≤ i.val) :
    schedWord (keyExpansion key) i
      = xorWord (schedWord (keyExpansion key) ⟨i.val - 4, by omega⟩)
          (tempWord (schedWord (keyExpansion key) ⟨i.val - 1, by omega⟩) i.val) := by
  have hword := scheduleWord_add_four key (i.val - 4)
  have hprev : i.val - 4 + 3 = i.val - 1 := by omega
  rw [hprev, Nat.sub_add_cancel h] at hword
  simpa only [schedWord_keyExpansion] using hword

/-- Settles O11: R142 is `keyExpansion_get_key`, R146 and R147 are the two cases of the temporary word, and the rules'
examples are evaluated. -/
theorem keyExpansionRecurrence : Obligations.KeyExpansionRecurrence := by
  unfold Obligations.KeyExpansionRecurrence
  exact ⟨fun key => ⟨keyExpansion_get_key key, schedWord_keyExpansion_recurrence key⟩,
    by decide, by rw [schedWord_keyExpansion]; decide, by rw [schedWord_keyExpansion]; decide⟩

end Sys2Proof.Machine
end

section
/-! PROOFS of the family 43_encrypt.md. ADDROUNDKEY by bytes and by columns (R161), and the outcomes of ENCRYPT (R166),
over the equations of the function that ENCRYPT and DECRYPT share. -/

namespace Sys2Proof.Machine

/-! ## ADDROUNDKEY -/

/-- Column c meets schedule word 4r + c (R161). -/
theorem column_addRoundKey (sch : Schedule) (r : Fin 11) (s : Block) (c : Fin 4) :
    column (addRoundKey sch r s) c = xorWord (column s c) (schedWord sch ⟨4 * r.val + c.val, by omega⟩) := by
  have hindex : 4 * (4 * r.val + c.val) = 16 * r.val + 4 * c.val := by omega
  simp only [column, schedWord, xorWord, addRoundKey, Vector.getElem_ofFn, Fin.getElem_fin, hindex, Nat.add_assoc]

/-- Two XORs with the same round key byte cancel (R161). -/
theorem addRoundKey_addRoundKey (sch : Schedule) (r : Fin 11) (s : Block) :
    addRoundKey sch r (addRoundKey sch r s) = s := by
  refine Vector.ext fun n hn => ?_
  have hbyte (t : Block) := addRoundKey_get sch r t ⟨n, hn⟩
  rw [hbyte, hbyte, BitVec.xor_assoc, BitVec.xor_self, BitVec.xor_zero]

theorem addRoundKey_of_zero_roundKey {sch : Schedule} {r : Fin 11}
    (h : ∀ n : Fin 16, sch[16 * r.val + n.val] = 0) (s : Block) : addRoundKey sch r s = s := by
  refine Vector.ext fun n hn => ?_
  have hbyte := addRoundKey_get sch r s ⟨n, hn⟩
  rw [h ⟨n, hn⟩] at hbyte
  exact hbyte.trans BitVec.xor_zero

/-- Round key 0 is the key (R142, R161). -/
theorem addRoundKey_keyExpansion_zero (key s : Block) (n : Fin 16) :
    (addRoundKey (keyExpansion key) 0 s)[n.val] = s[n] ^^^ key[n] := by
  rw [← keyExpansion_get_key key n]
  simpa using addRoundKey_get (keyExpansion key) 0 s n

/-- Settles O12: the laws follow from the byte law `addRoundKey_get`, and the example from round key 0 being the key. -/
theorem addRoundKeyIsInvolution : Obligations.AddRoundKeyIsInvolution := by
  unfold Obligations.AddRoundKeyIsInvolution
  refine ⟨fun sch r s => ⟨addRoundKey_get sch r s, column_addRoundKey sch r s, addRoundKey_addRoundKey sch r s,
    fun h => addRoundKey_of_zero_roundKey h s⟩, Vector.ext fun n hn => ?_⟩
  rw [addRoundKey_keyExpansion_zero knownKey knownPlain ⟨n, hn⟩]
  revert n
  decide

/-! ## The outcomes of ENCRYPT -/

section
variable (f : Schedule → Block → Block) (e : Env) {s : State}

theorem blockCommand_of_len_ne {len : Nat} (hlen : len ≠ 16) :
    blockCommand f len e s = (s, .invalidLength) := by
  simpa [hlen] using blockCommand_cases f len e s

/-- An object that is not ready takes the sticky fault (R166, R246). -/
theorem blockCommand_of_not_rdy (hrdy : s.rdy = false) :
    blockCommand f 16 e s = ({ s with fault := true }, .notReady) := by
  simpa [hrdy] using blockCommand_cases f 16 e s

theorem blockCommand_of_icode_ne (hrdy : s.rdy = true) (hic : icode s.params s.k ≠ s.ic) :
    blockCommand f 16 e s = (s.setRdy false, .integrity) := by
  simpa [State.integrityOk, hrdy, hic] using blockCommand_cases f 16 e s

theorem blockCommand_of_icode_eq (hrdy : s.rdy = true) (hic : icode s.params s.k = s.ic) :
    blockCommand f 16 e s = (s.writeDataOut (f s.sched s.dataIn), .ok) := by
  simpa [State.integrityOk, hrdy, hic] using blockCommand_cases f 16 e s

end

/-- On a bound, unfaulted object a command with KOBJ = 0 reports what its own function answers (R200). -/
theorem runCommand_of_body {opc : BitVec 4} {body : Env → State → State × ResultCode} {s t : State} {c : ResultCode}
    (hfault : s.fault = false) (hbound : s.bound = true) (hbody : body s.env (s.useAnswers.logOp opc) = (t, c)) :
    runCommand opc 0 body s = t.report c := by
  rw [runCommand_runs ((prologue_eq_none_iff opc 0 s).mpr ⟨hfault, rfl, .inr hbound⟩), hbody]

/-- ENCRYPT with KOBJ = 0 completes with what the block command answers for EncryptBlock (R166). -/
theorem exec_encrypt_of_blockCommand {s t : State} {len : Nat} {c : ResultCode} (hfault : s.fault = false)
    (hbound : s.bound = true) (hbody : blockCommand encryptBlock len s.env (s.useAnswers.logOp 3) = (t, c)) :
    exec (.encrypt 0 len) s = .next (t.report c) :=
  congrArg _ (runCommand_of_body hfault hbound hbody)

/-- Settles O37: one clause for each equation of the block command; LASTOP and the used-up answers, written before it,
are no part of what its tests read. -/
theorem encryptOutcomes : Obligations.EncryptOutcomes := by
  unfold Obligations.EncryptOutcomes
  intro s len hfault hbound
  refine ⟨fun hlen => ?_, ?_, ?_, ?_⟩
  · exact exec_encrypt_of_blockCommand hfault hbound (blockCommand_of_len_ne _ _ hlen)
  · rintro rfl hrdy
    exact exec_encrypt_of_blockCommand hfault hbound (blockCommand_of_not_rdy _ _ hrdy)
  · rintro rfl hrdy hic
    exact exec_encrypt_of_blockCommand hfault hbound (blockCommand_of_icode_ne _ _ hrdy hic)
  · rintro rfl hrdy hic
    exact exec_encrypt_of_blockCommand hfault hbound (blockCommand_of_icode_eq _ _ hrdy hic)

end Sys2Proof.Machine
end

section
/-! PROOFS of the family 44_decrypt.md. The outcomes of DECRYPT (R185), over the equations of the block command that the
family 43_encrypt.md proves for every block transform. -/

namespace Sys2Proof.Machine

/-- DECRYPT with KOBJ = 0 completes with what the block command answers for DecryptBlock (R185). -/
theorem exec_decrypt_of_blockCommand {s t : State} {len : Nat} {c : ResultCode} (hfault : s.fault = false)
    (hbound : s.bound = true) (hbody : blockCommand decryptBlock len s.env (s.useAnswers.logOp 4) = (t, c)) :
    exec (.decrypt 0 len) s = .next (t.report c) :=
  congrArg _ (runCommand_of_body hfault hbound hbody)

/-- Settles O38: "exactly as for ENCRYPT" (R185), so each clause is the block command's equation at DecryptBlock. -/
theorem decryptOutcomes : Obligations.DecryptOutcomes := by
  unfold Obligations.DecryptOutcomes
  intro s len hfault hbound
  have decrypt {t : State} {c : ResultCode} := exec_decrypt_of_blockCommand (t := t) (len := len) (c := c) hfault hbound
  refine ⟨fun hlen => decrypt (blockCommand_of_len_ne _ _ hlen), ?_, ?_, ?_⟩ <;> rintro rfl hrdy
  · exact decrypt (blockCommand_of_not_rdy _ _ hrdy)
  · exact fun hic => decrypt (blockCommand_of_icode_ne _ _ hrdy hic)
  · exact fun hic => decrypt (blockCommand_of_icode_eq _ _ hrdy hic)

end Sys2Proof.Machine
end

section
/-! PROOFS of the family 45_lifecycle_commands.md. Every command is its own function after the common prologue (R99,
R200): the words that the prologue stops, and then, command by command, the equations of that function and the outcomes
of the command over them (R201 to R208). -/

namespace Sys2Proof.Machine

/-! ## A command is its own function after the prologue -/

/-- What a command does once the prologue lets it through. -/
def commandBody : Instr → Env → State → State × ResultCode
  | .create _ => createObject
  | .setKey _ len => setKey len
  | .encrypt _ len => blockCommand encryptBlock len
  | .decrypt _ len => blockCommand decryptBlock len
  | .setMask _ => setMaskFlag
  | .unmask _ => clearMaskFlag
  | .deleteKeys _ => deleteKeysCmd
  | .destroy _ => destroyObject

theorem exec_eq_runCommand (i : Instr) (s : State) :
    exec i s = .next (runCommand i.opcode i.kobj (commandBody i) s) := by
  cases i <;> rfl

theorem exec_stopped {i : Instr} {s : State} {c : ResultCode} (h : prologue i.opcode i.kobj s = some c) :
    exec i s = .next (s.concluded i.opcode c) := by
  rw [exec_eq_runCommand, runCommand_stopped h]

/-- Without FAULT, on reference 0 and an object that exists unless the command is CREATE, a command reports what its own
function answers. -/
theorem exec_of_commandBody {i : Instr} {s t : State} {c : ResultCode} (hkobj : i.kobj = 0) (hfault : s.fault = false)
    (hexists : i.opcode = 1 ∨ s.bound = true) (hbody : commandBody i s.env (s.useAnswers.logOp i.opcode) = (t, c)) :
    exec i s = .next (t.report c) := by
  rw [exec_eq_runCommand, runCommand_runs ((prologue_eq_none_iff _ _ s).mpr ⟨hfault, hkobj, hexists⟩), hbody]

/-! ## The words that the prologue stops -/

/-- No command's own function writes LASTOP: line 1 of the prologue did (R200). -/
theorem commandBody_lastop (i : Instr) (e : Env) (s : State) : (commandBody i e s).1.lastop = s.lastop := by
  cases i with
  | create kobj =>
    obtain ⟨-, h⟩ | ⟨-, h⟩ := createObject_cases e s <;> exact congrArg (·.1.lastop) h
  | setKey kobj len =>
    obtain ⟨-, h⟩ | ⟨-, -, h⟩ | ⟨-, -, h⟩ := setKey_cases len e s <;> exact congrArg (·.1.lastop) h
  | encrypt kobj len | decrypt kobj len =>
    obtain ⟨-, h⟩ | ⟨-, -, h⟩ | ⟨-, -, -, h⟩ | ⟨-, -, -, h⟩ := blockCommand_cases _ len e s <;>
      exact congrArg (·.1.lastop) h
  | setMask kobj | unmask kobj => rfl
  | deleteKeys kobj =>
    obtain ⟨-, h⟩ | ⟨-, h⟩ := deleteKeysCmd_cases e s <;> exact congrArg (·.1.lastop) h
  | destroy kobj =>
    obtain ⟨-, h⟩ | ⟨-, h⟩ := destroyObject_cases e s <;> exact congrArg (·.1.lastop) h

/-- Every command leaves its opcode in LASTOP, whether it was stopped or ran (R39). -/
theorem exec_lastop (i : Instr) (s : State) : ∃ t, exec i s = .next t ∧ t.lastop = i.opcode := by
  refine ⟨_, exec_eq_runCommand i s, ?_⟩
  obtain ⟨c, -, h⟩ | ⟨-, -, -, h⟩ := runCommand_cases i.opcode i.kobj (commandBody i) s
  · rw [h, State.concluded_lastop]
  · rw [h, State.report_lastop, commandBody_lastop, State.logOp_lastop]

theorem execute_of_decode_ok {w : BusWord} {i : Instr} (h : decode w = .ok i) (s : State) :
    execute w s = exec i s := by
  simp only [execute, h]

/-- A legal word, in the state in which tests 2, 4 or 5 of the prologue stop it. -/
theorem execute_stopped {w : BusWord} {i : Instr} {s : State} {c : ResultCode} (h : decode w = .ok i)
    (hstop : prologue (opcField w) (kobjField w) s = some c) :
    execute w s = .next (s.concluded (opcField w) c) := by
  obtain ⟨-, hopc, hkobj, -⟩ := (decode_eq_ok_iff w i).mp h
  rw [hopc, hkobj] at hstop
  rw [execute_of_decode_ok h, exec_stopped hstop, hopc]

/-- An illegal word, with test 2 before test 3. -/
theorem execute_of_illegalWord {w : BusWord} (h : IllegalWord w) (s : State) :
    execute w s = .next (s.concluded (opcField w) (if s.fault then .faulted else .illegalCmd)) :=
  illegalWordExecutesNothing.2 w s h

theorem exists_decode_of_not_illegalWord {w : BusWord} (h : ¬ IllegalWord w) : ∃ i, decode w = .ok i := by
  cases hdec : decode w with
  | ok i => exact ⟨i, rfl⟩
  | error r => exact absurd ((decode_eq_error_iff w).mp ⟨r, hdec⟩) h

theorem execute_lastop (w : BusWord) (s : State) : ∃ t, execute w s = .next t ∧ t.lastop = opcField w := by
  by_cases hill : IllegalWord w
  · exact ⟨_, execute_of_illegalWord hill s, rfl⟩
  · obtain ⟨i, hdec⟩ := exists_decode_of_not_illegalWord hill
    obtain ⟨-, hopc, -, -⟩ := (decode_eq_ok_iff w i).mp hdec
    rw [execute_of_decode_ok hdec, hopc]
    exact exec_lastop i s

/-- Under FAULT every word, legal or not, is answered with RES_FAULTED (R246). -/
theorem execute_of_fault {s : State} (hfault : s.fault = true) (w : BusWord) :
    execute w s = .next (s.concluded (opcField w) .faulted) := by
  by_cases hill : IllegalWord w
  · rw [execute_of_illegalWord hill, if_pos hfault]
  · obtain ⟨i, hdec⟩ := exists_decode_of_not_illegalWord hill
    exact execute_stopped hdec ((prologue_eq_some_iff _ _ s _).mpr (.inl ⟨hfault, rfl⟩))

/-- A legal word that names no object: a reference other than 0, or an object that does not exist (tests 4 and 5). -/
theorem execute_nullRef {w : BusWord} {s : State} (hfault : s.fault = false) (hlegal : ¬ IllegalWord w)
    (hnull : kobjField w ≠ 0 ∨ (opcField w ≠ 1 ∧ s.bound = false)) :
    execute w s = .next (s.concluded (opcField w) .nullRef) := by
  obtain ⟨i, hdec⟩ := exists_decode_of_not_illegalWord hlegal
  exact execute_stopped hdec ((prologue_eq_some_iff _ _ s _).mpr (.inr ⟨hfault, hnull, rfl⟩))

/-- Settles O31: one clause for each test of the prologue. -/
theorem prologueStopsCommand : Obligations.PrologueStopsCommand := by
  unfold Obligations.PrologueStopsCommand
  refine fun w s => ⟨execute_lastop w s, fun hfault => execute_of_fault hfault w, fun hfault hill => ?_,
    fun hfault hlegal hkobj => execute_nullRef hfault hlegal (.inl ?_),
    fun hfault hlegal _ hopc hbound => execute_nullRef hfault hlegal (.inr ⟨hopc, hbound⟩)⟩
  · have h := execute_of_illegalWord hill s
    rwa [hfault] at h
  · exact fun hzero => hkobj (BitVec.eq_of_toNat_eq hzero)

/-! ## The code of a wipe -/

/-- The warning of a wipe, under the condition that it failed (R242). -/
theorem warnIf_eq_ite {failed : Bool} {p : Prop} [Decidable p] (h : failed = true ↔ p) :
    warnIf failed = if p then .wipeWarn else .ok :=
  if_congr h rfl rfl

/-! ## SET_KEY -/

section
variable (e : Env) (s : State)

theorem setKey_of_len_ne {len : Nat} (hlen : len ≠ 16) : setKey len e s = (s.setRdy false, .invalidLength) := by
  simpa [hlen] using setKey_cases len e s

/-- Without memory the key is installed, and the older schedule is left as it was (R202). -/
theorem setKey_of_alloc_failed (halloc : e.allocOk = false) :
    setKey 16 e s = ((s.setRdy false).installKey, .noMemory) := by
  simpa [halloc] using setKey_cases 16 e s

theorem setKey_of_alloc_ok (halloc : e.allocOk = true) :
    setKey 16 e s = (((s.setRdy false).installKey.holdSchedule (keyExpansion s.keyIn)).setRdy true,
      warnIf (s.sheld && !e.wipeSched.ok)) := by
  simpa [halloc] using setKey_cases 16 e s

end

/-- Settles O35: one clause for each equation of SET_KEY's own function, and the code of the last clause is the warning
of the older schedule's wipe. -/
theorem setKeyOutcomes : Obligations.SetKeyOutcomes := by
  unfold Obligations.SetKeyOutcomes
  intro s len hfault hbound
  have run {t : State} {c : ResultCode} :=
    exec_of_commandBody (i := .setKey 0 len) (t := t) (c := c) rfl hfault (.inr hbound)
  refine ⟨fun hlen => run (setKey_of_len_ne _ _ hlen), ?_, ?_⟩ <;> rintro rfl halloc
  · exact run (setKey_of_alloc_failed _ _ halloc)
  · have hwarn : (s.sheld && !s.env.wipeSched.ok) = true ↔ s.sheld = true ∧ s.env.wipeSched.ok = false := by simp
    rw [← warnIf_eq_ite hwarn]
    exact run (setKey_of_alloc_ok _ _ halloc)

/-! ## DELETE_KEYS -/

section
variable {e : Env} {s : State}

theorem deleteKeysCmd_of_not_sheld (hsheld : s.sheld = false) : deleteKeysCmd e s = (s.setRdy false, .ok) := by
  simpa [hsheld] using deleteKeysCmd_cases e s

theorem deleteKeysCmd_of_wipe_ok (hsheld : s.sheld = true) (hwipe : e.wipeSched.ok = true) :
    deleteKeysCmd e s = ((s.setRdy false).releaseSchedule e.wipeSched.pat, .ok) := by
  simpa [hsheld, hwipe, Wipe.contents_of_ok, warnIf] using deleteKeysCmd_cases e s

/-- A wipe that failed is replaced by zeros and reported (R205, R264). -/
theorem deleteKeysCmd_of_wipe_failed (hsheld : s.sheld = true) (hwipe : e.wipeSched.ok = false) :
    deleteKeysCmd e s = ((s.setRdy false).releaseSchedule (zeroBytes 176), .wipeWarn) := by
  simpa [hsheld, hwipe, Wipe.contents_of_not_ok, warnIf] using deleteKeysCmd_cases e s

end

/-- Settles O40: one clause for each equation of DELETE_KEYS's own function. -/
theorem deleteKeysWipesSchedule : Obligations.DeleteKeysWipesSchedule := by
  unfold Obligations.DeleteKeysWipesSchedule
  intro s hfault hbound
  have run {t : State} {c : ResultCode} :=
    exec_of_commandBody (i := .deleteKeys 0) (t := t) (c := c) rfl hfault (.inr hbound)
  exact ⟨fun hsheld => run (deleteKeysCmd_of_not_sheld hsheld),
    fun hsheld hwipe => run (deleteKeysCmd_of_wipe_ok hsheld hwipe),
    fun hsheld hwipe => run (deleteKeysCmd_of_wipe_failed hsheld hwipe)⟩

/-! ## DESTROY -/

/-- Releasing what is not held changes nothing. -/
theorem releaseSchedule_sched_of_not_sheld {s : State} (hsheld : s.sheld = false) : s.releaseSchedule s.sched = s := by
  rw [State.releaseSchedule, ← hsheld]

/-- Held or not, the schedule is released; only what is held is overwritten (R207). -/
theorem deleteIfHeld_eq (w : Wipe 176) (s : State) :
    deleteIfHeld w s = (s.releaseSchedule (if s.sheld then w.contents else s.sched), s.sheld && !w.ok) := by
  obtain ⟨hsheld, h⟩ | ⟨hsheld, h⟩ := deleteIfHeld_cases w s
  · simp [h, hsheld]
  · simp [h, hsheld, releaseSchedule_sched_of_not_sheld hsheld]

theorem destroyObject_eq (e : Env) (s : State) :
    destroyObject e s =
      (((s.releaseSchedule (if s.sheld then e.wipeSched.contents else s.sched)).overwriteKey
          e.wipeKey.contents).unbindObject,
        warnIf (s.sheld && !e.wipeSched.ok || !e.wipeKey.ok)) := by
  simp only [destroyObject, deleteIfHeld_eq, wipeKey]

/-- Settles O41: the equation of DESTROY's own function, with the warning of the wipes that ran as its code. -/
theorem destroyErasesKeyObject : Obligations.DestroyErasesKeyObject := by
  unfold Obligations.DestroyErasesKeyObject
  intro s hfault hbound
  have hwarn : (s.sheld && !s.env.wipeSched.ok || !s.env.wipeKey.ok) = true ↔
      (s.sheld = true ∧ s.env.wipeSched.ok = false) ∨ s.env.wipeKey.ok = false := by simp
  rw [← warnIf_eq_ite hwarn]
  exact exec_of_commandBody (i := .destroy 0) rfl hfault (.inr hbound) (destroyObject_eq _ _)

/-! ## CREATE, SET_MASK and UNMASK -/

section
variable (e : Env) {s : State}

theorem createObject_of_bound (hbound : s.bound = true) : createObject e s = (s, .alreadyBound) := by
  simpa [hbound] using createObject_cases e s

theorem createObject_of_unbound (hbound : s.bound = false) : createObject e s = (s.bindObject, .ok) := by
  simpa [hbound] using createObject_cases e s

end

/-- On a valid reference CREATE needs no object that exists (R200 line 5, R201). -/
theorem exec_create_of_createObject {s t : State} {c : ResultCode} (hfault : s.fault = false)
    (hbody : createObject s.env (s.useAnswers.logOp 1) = (t, c)) : exec (.create 0) s = .next (t.report c) :=
  exec_of_commandBody (i := .create 0) rfl hfault (.inl rfl) hbody

/-- CREATE on an object that does not exist binds it (R201). -/
theorem exec_create_of_unbound {s : State} (hfault : s.fault = false) (hbound : s.bound = false) :
    exec (.create 0) s = .next ((s.concluded 1 .ok).bindObject) :=
  exec_create_of_createObject hfault (createObject_of_unbound _ hbound)

/-- Settles O34: the reference is tested by the prologue, the object by CREATE's own function; the example is its
binding of the reset state. -/
theorem createBindsObject : Obligations.CreateBindsObject := by
  unfold Obligations.CreateBindsObject
  refine ⟨fun s kobj hfault hkobj => ?_, fun s => exec_create_of_unbound,
    fun s hfault hbound => exec_create_of_createObject hfault (createObject_of_bound _ hbound),
    _, exec_create_of_unbound rfl rfl, ?_⟩
  · exact exec_stopped (i := .create kobj) ((prologue_eq_some_iff _ _ s _).mpr (.inr ⟨hfault, .inl hkobj, rfl⟩))
  · decide

/-- Settles O39: both functions write MASKED alone, whatever it was. -/
theorem maskCommandsWriteFlag : Obligations.MaskCommandsWriteFlag := by
  unfold Obligations.MaskCommandsWriteFlag
  exact fun s hfault hbound => ⟨exec_of_commandBody (i := .setMask 0) rfl hfault (.inr hbound) rfl,
    exec_of_commandBody (i := .unmask 0) rfl hfault (.inr hbound) rfl⟩

end Sys2Proof.Machine
end

section
/-! PROOFS of the family 60_exceptions.md. The code that a command reports (R245), the one test that sets FAULT and what
FAULT refuses from then on (R246), and the answer that no command reads (R266). -/

namespace Sys2Proof.Machine

/-! ## The code of a command's own function -/

theorem createObject_code (e : Env) (s : State) :
    (createObject e s).2 = if s.bound then .alreadyBound else .ok := by
  obtain ⟨hbound, h⟩ | ⟨hbound, h⟩ := createObject_cases e s <;> simp [h, hbound]

/-- Neither integrity check of SET_KEY can end it, so what is left are the length, the allocation and the wipe (R202). -/
theorem setKey_code (len : Nat) (e : Env) (s : State) :
    (setKey len e s).2 =
      if len ≠ 16 then .invalidLength
      else if e.allocOk = false then .noMemory
      else if s.sheld ∧ e.wipeSched.ok = false then .wipeWarn
      else .ok := by
  obtain ⟨hlen, h⟩ | ⟨rfl, halloc, h⟩ | ⟨rfl, halloc, h⟩ := setKey_cases len e s
  · simp [h, hlen]
  · simp [h, halloc]
  · simp [h, halloc, warnIf]

/-- The three tests of ENCRYPT and DECRYPT in their order (R166, R185). -/
theorem blockCommand_code (f : Schedule → Block → Block) (len : Nat) (e : Env) (s : State) :
    (blockCommand f len e s).2 =
      if len ≠ 16 then .invalidLength
      else if s.rdy = false then .notReady
      else if s.integrityOk = false then .integrity
      else .ok := by
  obtain ⟨hlen, h⟩ | ⟨rfl, hrdy, h⟩ | ⟨rfl, hrdy, hint, h⟩ | ⟨rfl, hrdy, hint, h⟩ := blockCommand_cases f len e s
  · simp [h, hlen]
  · simp [h, hrdy]
  · simp [h, hrdy, hint]
  · simp [h, hrdy, hint]

theorem deleteKeysCmd_code (e : Env) (s : State) :
    (deleteKeysCmd e s).2 = if s.sheld ∧ e.wipeSched.ok = false then .wipeWarn else .ok := by
  obtain ⟨hsheld, h⟩ | ⟨hsheld, h⟩ := deleteKeysCmd_cases e s <;> simp [h, hsheld, warnIf]

theorem destroyObject_code (e : Env) (s : State) :
    (destroyObject e s).2 =
      if (s.sheld ∧ e.wipeSched.ok = false) ∨ e.wipeKey.ok = false then .wipeWarn else .ok := by
  rw [destroyObject_eq]
  exact warnIf_eq_ite (by simp)

/-- Line 1 of the prologue writes nothing that a command's own function tests, so its code is the first condition of
lines 5 to 12 of R245. -/
theorem commandBody_code (i : Instr) (opc : BitVec 4) (s : State) :
    (commandBody i s.env (s.useAnswers.logOp opc)).2 = firstCodeOf i s := by
  cases i with
  | create kobj => exact createObject_code s.env _
  | setKey kobj len =>
    rw [firstCodeOf, integrityOk_installKey]
    exact setKey_code _ _ _
  | encrypt kobj len | decrypt kobj len => exact blockCommand_code _ _ s.env _
  | setMask kobj | unmask kobj => rfl
  | deleteKeys kobj => exact deleteKeysCmd_code _ _
  | destroy kobj => exact destroyObject_code _ _

/-! ## The code of a command word -/

theorem exec_result {i : Instr} {s t : State} (h : exec i s = .next t) :
    t.result = (prologue i.opcode i.kobj s).getD (firstCodeOf i s) := by
  rw [exec_eq_runCommand] at h
  cases h
  cases hp : prologue i.opcode i.kobj s with
  | some c => rw [runCommand_stopped hp]; rfl
  | none => rw [runCommand_runs hp, State.report_result, commandBody_code, Option.getD_none]

/-- The priority list on a legal word: the prologue's answer, or else that of the command's own tests (R245). -/
theorem firstCode_of_decode_ok {w : BusWord} {i : Instr} (h : decode w = .ok i) (s : State) :
    firstCode w s = (prologue i.opcode i.kobj s).getD (firstCodeOf i s) := by
  simp only [firstCode, prologue, h]
  split_ifs <;> rfl

/-- The priority list on an illegal word: FAULT comes before legality (R245). -/
theorem firstCode_of_illegalWord {w : BusWord} (h : IllegalWord w) (s : State) :
    firstCode w s = if s.fault then .faulted else .illegalCmd := by
  obtain ⟨r, hr⟩ := (decode_eq_error_iff w).mpr h
  simp only [firstCode, hr]

theorem execute_result {w : BusWord} {s t : State} (h : execute w s = .next t) : t.result = firstCode w s := by
  by_cases hill : IllegalWord w
  · rw [execute_of_illegalWord hill] at h
    cases h
    exact (firstCode_of_illegalWord hill s).symm
  · obtain ⟨i, hdec⟩ := exists_decode_of_not_illegalWord hill
    rw [execute_of_decode_ok hdec] at h
    rw [exec_result h, firstCode_of_decode_ok hdec]

/-! ## The test that sets FAULT -/

theorem warnIf_ne_notReady (failed : Bool) : warnIf failed ≠ .notReady := by
  cases failed <;> decide

/-- The readiness test of ENCRYPT and DECRYPT takes the sticky fault, and no other test of theirs does (R166, R185). -/
theorem blockCommand_fault_cases (f : Schedule → Block → Block) (len : Nat) (e : Env) (s : State) :
    (len = 16 ∧ s.rdy = false ∧ blockCommand f len e s = ({ s with fault := true }, .notReady)) ∨
    ((blockCommand f len e s).1.fault = s.fault ∧ (blockCommand f len e s).2 ≠ .notReady) := by
  obtain ⟨-, h⟩ | ⟨hlen, hrdy, h⟩ | ⟨-, -, -, h⟩ | ⟨-, -, -, h⟩ := blockCommand_cases f len e s <;> rw [h]
  · exact .inr ⟨rfl, nofun⟩
  · exact .inl ⟨hlen, hrdy, rfl⟩
  · exact .inr ⟨rfl, nofun⟩
  · exact .inr ⟨rfl, nofun⟩

/-- A command's own function takes the sticky fault where ENCRYPT or DECRYPT of 16 bytes finds the object not ready, and
keeps FAULT and reports another code everywhere else (R246). -/
theorem commandBody_fault_cases (i : Instr) (e : Env) (s : State) :
    (s.rdy = false ∧ (i = .encrypt i.kobj 16 ∨ i = .decrypt i.kobj 16)
      ∧ commandBody i e s = ({ s with fault := true }, .notReady)) ∨
    ((commandBody i e s).1.fault = s.fault ∧ (commandBody i e s).2 ≠ .notReady) := by
  cases i with
  | create kobj =>
    obtain ⟨-, h⟩ | ⟨-, h⟩ := createObject_cases e s <;> rw [commandBody, h] <;> exact .inr ⟨rfl, nofun⟩
  | setKey kobj len =>
    obtain ⟨-, h⟩ | ⟨-, -, h⟩ | ⟨-, -, h⟩ := setKey_cases len e s <;> rw [commandBody, h]
    · exact .inr ⟨rfl, nofun⟩
    · exact .inr ⟨rfl, nofun⟩
    · exact .inr ⟨rfl, warnIf_ne_notReady _⟩
  | encrypt kobj len =>
    obtain ⟨rfl, hrdy, h⟩ | h := blockCommand_fault_cases encryptBlock len e s
    · exact .inl ⟨hrdy, .inl rfl, h⟩
    · exact .inr h
  | decrypt kobj len =>
    obtain ⟨rfl, hrdy, h⟩ | h := blockCommand_fault_cases decryptBlock len e s
    · exact .inl ⟨hrdy, .inr rfl, h⟩
    · exact .inr h
  | setMask kobj | unmask kobj => exact .inr ⟨rfl, nofun⟩
  | deleteKeys kobj =>
    obtain ⟨-, h⟩ | ⟨-, h⟩ := deleteKeysCmd_cases e s <;> rw [commandBody, h]
    · exact .inr ⟨rfl, warnIf_ne_notReady _⟩
    · exact .inr ⟨rfl, nofun⟩
  | destroy kobj =>
    rw [commandBody, destroyObject_eq]
    exact .inr ⟨rfl, warnIf_ne_notReady _⟩

/-- FAULT is taken exactly with RES_NOT_READY, by ENCRYPT or DECRYPT of 16 bytes on an object that is bound and not
ready; every other command keeps FAULT and reports another code (R246). -/
theorem exec_fault_cases {i : Instr} {s t : State} (h : exec i s = .next t) :
    (t.fault = true ∧ t.result = .notReady
      ∧ s.bound = true ∧ s.rdy = false ∧ (i = .encrypt 0 16 ∨ i = .decrypt 0 16)) ∨
    (t.fault = s.fault ∧ t.result ≠ .notReady) := by
  rw [exec_eq_runCommand] at h
  cases h
  obtain ⟨c, hc, h⟩ | ⟨-, hkobj, hexists, h⟩ := runCommand_cases i.opcode i.kobj (commandBody i) s <;> rw [h]
  · obtain rfl | rfl := hc <;> exact .inr ⟨rfl, nofun⟩
  · obtain ⟨hrdy, hi, hbody⟩ | hkeeps := commandBody_fault_cases i s.env (s.useAnswers.logOp i.opcode)
    · rw [hkobj] at hi
      refine .inl ⟨by rw [hbody]; rfl, by rw [hbody]; rfl, hexists.resolve_left ?_, hrdy, hi⟩
      obtain rfl | rfl := hi <;> decide
    · exact .inr hkeeps

/-- FAULT afterwards is FAULT before or the readiness test's code (R245, R246). -/
theorem execute_fault_iff {w : BusWord} {s t : State} (h : execute w s = .next t) :
    t.fault = true ↔ s.fault = true ∨ t.result = .notReady := by
  by_cases hill : IllegalWord w
  · rw [execute_of_illegalWord hill] at h
    cases h
    cases hfault : s.fault <;> simp [hfault]
  · obtain ⟨i, hdec⟩ := exists_decode_of_not_illegalWord hill
    rw [execute_of_decode_ok hdec] at h
    obtain ⟨hfault, hcode, -⟩ | ⟨hfault, hcode⟩ := exec_fault_cases h
    · exact iff_of_true hfault (.inr hcode)
    · rw [hfault, or_iff_left hcode]

/-- Settles O32: every word completes, its code is the priority list's, and its FAULT is the readiness test's. -/
theorem firstConditionGivesCode : Obligations.FirstConditionGivesCode := by
  unfold Obligations.FirstConditionGivesCode
  intro w s
  obtain ⟨t, ht, -⟩ := execute_lastop w s
  exact ⟨t, ht, execute_result ht, execute_fault_iff ht⟩

/-! ## The sticky FAULT -/

/-- No step but the reset event clears FAULT (R246, R281). -/
theorem step_keeps_fault {s t : State} (hfault : s.fault = true) (h : step s = .next t)
    (hreset : s.inputs.head? ≠ some .reset) : t.fault = true := by
  obtain ⟨-, rfl⟩ | ⟨x, rest, hin, hx⟩ := step_cases h
  · exact hfault
  · obtain ⟨-, -, r, rfl⟩ | ⟨w, v, -, rfl⟩ | ⟨w, v, -, rfl⟩ | ⟨v, -, hexec⟩ | ⟨rfl, -⟩ | ⟨k', -, -, rfl⟩ := hx
    · exact hfault
    · exact hfault
    · exact hfault
    · exact (execute_fault_iff hexec).mpr (.inl hfault)
    · rw [hin] at hreset
      exact absurd rfl hreset
    · exact hfault

/-- Settles O42: the contract violation is the second clause of ENCRYPT's and DECRYPT's outcomes, and `exec_fault_cases`
says that it is the only one. -/
theorem stickyFaultFreezesCore : Obligations.StickyFaultFreezesCore := by
  unfold Obligations.StickyFaultFreezesCore
  refine ⟨fun s hfault hbound hrdy => ?_, fun s t i hfault h ht => ?_, fun s w hfault => execute_of_fault hfault w,
    fun s t => step_keeps_fault, fun s w v hfault => ⟨rfl, rfl, ?_, rfl⟩⟩
  · obtain ⟨-, hencrypt, -⟩ := encryptOutcomes s 16 hfault hbound
    obtain ⟨-, hdecrypt, -⟩ := decryptOutcomes s 16 hfault hbound
    exact ⟨hencrypt rfl hrdy, hdecrypt rfl hrdy⟩
  · obtain ⟨-, -, hviolation⟩ | ⟨hkeeps, -⟩ := exec_fault_cases h
    · exact hviolation
    · rw [hkeeps, hfault] at ht
      cases ht
  · obtain ⟨-, -, -, hbit⟩ := status_flag_bits s
    exact hbit.trans hfault

/-! ## The INTEROP pin -/

/-- No command's own function reads the pin (R266). -/
theorem commandBody_interop (i : Instr) (e : Env) (b : Bool) (s : State) :
    commandBody i { e with interop := b } s = commandBody i e s := by
  cases i <;> rfl

/-- What the pin answers stands in the record that a command reads, and in no other part of it (R261). -/
theorem env_interop (s : State) (e : Env) (rest : List Env) (b : Bool) :
    { s with answers := { e with interop := b } :: rest }.env
      = { { s with answers := e :: rest }.env with interop := b } := rfl

/-- Settles O56: the record is used up whatever it holds, and the command's own function does not read the pin. -/
theorem interopPinHasNoEffect : Obligations.InteropPinHasNoEffect := by
  unfold Obligations.InteropPinHasNoEffect
  intro i s e rest b
  rw [exec_eq_runCommand, exec_eq_runCommand, runCommand, runCommand, env_interop, commandBody_interop]
  rfl

end Sys2Proof.Machine
end

section
/-! PROOFS of the family 70_reset_and_hazards.md. The reset event (R281): the state it leaves, what the host sees and may
do there, and that FAULT falls in no other way. -/

namespace Sys2Proof.Machine

/-! ## The state after the reset event -/

theorem step_reset {s : State} {rest : List Input} (h : s.inputs = .reset :: rest) :
    step s = .next (s.withInputs rest).onReset := by
  rw [step_of_inputs h]
  rfl

/-! The registers and the lifecycle are assembled from fields of the spec's state, which `onReset` takes from
`State.reset`. -/

@[simp] theorem State.onReset_status (s : State) : s.onReset.status = 0 := State.reset_status

@[simp] theorem State.onReset_flags (s : State) : s.onReset.flags = 0 := State.reset_flags

@[simp] theorem State.onReset_info (s : State) : s.onReset.info = 0 := State.reset_info

@[simp] theorem State.onReset_lifecycle (s : State) : s.onReset.lifecycle = .unbound := State.reset_lifecycle

/-! ## Commands and steps around reset -/

/-- Without an object every command but CREATE is stopped by test 5 of the prologue, or by test 4 with the same code
(R200). -/
theorem exec_of_unbound {i : Instr} {s : State} (hfault : s.fault = false) (hbound : s.bound = false)
    (hopc : i.opcode ≠ 1) : exec i s = .next (s.concluded i.opcode .nullRef) :=
  exec_stopped ((prologue_eq_some_iff _ _ s _).mpr (.inr ⟨hfault, .inr ⟨hopc, hbound⟩, rfl⟩))

/-- "Reset is the only way to clear FAULT" (R281). -/
theorem reset_of_step_clears_fault {s t : State} (hfault : s.fault = true) (h : step s = .next t)
    (hclear : t.fault = false) : s.inputs.head? = some .reset := by
  by_contra hreset
  have hkept : t.fault = true := step_keeps_fault hfault h hreset
  rw [hclear] at hkept
  cases hkept

/-- Settles O20: the state after the event is `onReset`, where the object is unbound and FAULT is 0; and a step that
clears FAULT is the event. -/
theorem resetEventErasesAll : Obligations.ResetEventErasesAll := by
  unfold Obligations.ResetEventErasesAll
  refine ⟨fun s rest hin => ⟨step_reset hin, fun t ht => ?_⟩, fun s t => reset_of_step_clears_fault⟩
  obtain rfl : (s.withInputs rest).onReset = t := Host.Outcome.next.inj ((step_reset hin).symm.trans ht)
  exact ⟨State.onReset_lifecycle _, State.onReset_status _, State.onReset_flags _, State.onReset_info _,
    fun i hopc => exec_of_unbound rfl rfl hopc⟩

end Sys2Proof.Machine
end

section
/-! PROOFS of the family other. Decoding and encoding undo each other (R90 to R93); the multiplications and the tables
(R111 to R119, R131 to R135); the transforms and the block ciphers undo each other (R160 to R186); and then the machine:
what every step keeps (R40, R41), what each command leaves alone, and what the commands do one after another. -/

namespace Sys2Proof

/-! ## Command words, both ways -/

/-- A command is well-formed exactly when its two operands fit their fields (R90). -/
theorem Instr.wellFormed_iff (i : Instr) : i.wellFormed = true ↔ i.kobj < 16 ∧ i.lenOperand < 256 := by
  cases i <;> simp [Instr.wellFormed, kobjFits, lenFits, Instr.kobj, Instr.lenOperand]

theorem decode_encode {i : Instr} (h : i.wellFormed = true) : decode (encode i) = .ok i := by
  obtain ⟨hkobj, hlen⟩ := i.wellFormed_iff.mp h
  refine (decode_eq_ok_iff (encode i) i).mpr ⟨rsvField_encode i, opcField_encode i, ?_, ?_⟩
  · rw [kobjField_encode, Nat.mod_eq_of_lt hkobj]
  · rw [lenField_encode, Nat.mod_eq_of_lt hlen]

/-- Settles O2: the fields of an encoded word are the command's, and the decoder is determined by the fields. -/
theorem decodeOfEncode : Obligations.DecodeOfEncode := by
  unfold Obligations.DecodeOfEncode
  exact fun i => decode_encode

/-- A legal word is the word of its own four fields, RSV being 0 (R90, R93). -/
theorem encode_of_decode_ok {w : BusWord} {i : Instr} (h : decode w = .ok i) : encode i = w := by
  obtain ⟨hrsv, hopc, hkobj, hlen⟩ := (decode_eq_ok_iff w i).mp h
  calc encode i = wordOfFields 0 (BitVec.ofNat 8 i.lenOperand) (BitVec.ofNat 4 i.kobj) i.opcode := rfl
    _ = wordOfFields (rsvField w) (w.extractLsb' 8 8) (w.extractLsb' 4 4) (opcField w) := by
      rw [← hrsv, ← hopc, ← hkobj, ← hlen, kobjField, lenField, BitVec.ofNat_toNat, BitVec.ofNat_toNat,
        BitVec.setWidth_eq, BitVec.setWidth_eq]
    _ = w := wordOfFields_eq_self w

theorem wellFormed_of_decode_ok {w : BusWord} {i : Instr} (h : decode w = .ok i) : i.wellFormed = true := by
  obtain ⟨-, -, hkobj, hlen⟩ := (decode_eq_ok_iff w i).mp h
  rw [i.wellFormed_iff, ← hkobj, ← hlen]
  exact ⟨BitVec.isLt _, BitVec.isLt _⟩

/-- Settles O3: the decoder reads all four fields, and they make up the word. -/
theorem encodeOfDecode : Obligations.EncodeOfDecode := by
  unfold Obligations.EncodeOfDecode
  exact fun w i h => ⟨encode_of_decode_ok h, wellFormed_of_decode_ok h⟩

/-- Settles O1: each word is evaluated. -/
theorem sampleWordsDecode : Obligations.SampleWordsDecode := by
  unfold Obligations.SampleWordsDecode
  exact ⟨rfl, rfl, rfl, rfl, rfl, rfl, rfl, rfl, rfl, rfl, rfl, rfl, rfl, rfl⟩

/-- A command word as a table word of 32 bits is itself. -/
theorem tableWord_toNat (w : BusWord) : tableWord 32 w.toNat = w := by
  rw [tableWord, Nat.mod_eq_of_lt w.isLt, BitVec.ofNat_toNat, BitVec.setWidth_eq]

/-- The host's view of the decoder gives a well-formed command back too. -/
theorem decodeTableWord_encode {i : Instr} (h : i.wellFormed = true) :
    decodeTableWord 32 (encode i).toNat = some i := by
  rw [decodeTableWord, if_pos le_rfl, tableWord_toNat, decode_encode h]
  rfl

end Sys2Proof

namespace Sys2Proof.Machine

/-- A write of a word to CMD runs it, with the bus's completion of the write before it (R26, R63). -/
theorem step_write_cmd {s : State} {w : BusWord} {rest : List Input} (h : s.inputs = .write 0x00 w :: rest) :
    step s = execute w { s with inputs := rest, response := .done } :=
  step_write_offset .cmd h

/-- Settles O25: a legal word runs as the command it decodes to, and `withFetchWord` writes such a word to CMD. -/
theorem stepRunsDecodedCommand : Obligations.StepRunsDecodedCommand := by
  unfold Obligations.StepRunsDecodedCommand
  refine ⟨fun s w i rest hin hdec => ?_, fun s i hwf => ⟨decodeTableWord_encode hwf, ?_⟩⟩
  · rw [step_write_cmd hin, execute_of_decode_ok hdec]
  · have hin : (s.withFetchWord 32 (encode i).toNat).inputs = .write 0x00 (encode i) :: s.inputs := by
      rw [State.withFetchWord, commandInput, tableWord_toNat]
      rfl
    rw [step_write_cmd hin, execute_of_decode_ok (decode_encode hwf)]
    rfl

/-! ## The multiplications -/

/-- Settles O7: the formulas are the definitions, and the printed results are evaluated. -/
theorem multipliersComposeDoublings : Obligations.MultipliersComposeDoublings := by
  unfold Obligations.MultipliersComposeDoublings
  exact ⟨fun x => ⟨rfl, rfl, rfl, rfl, rfl⟩, by decide⟩

theorem xor_left_comm (a b c : Byte) : a ^^^ (b ^^^ c) = b ^^^ (a ^^^ c) := by
  ac_rfl

theorem xor_xor_cancel_left (a b : Byte) : a ^^^ (a ^^^ b) = b := by
  rw [← BitVec.xor_assoc, BitVec.xor_self, BitVec.zero_xor]

theorem xor_xor_cancel_right (a b : Byte) : a ^^^ b ^^^ b = a := by
  rw [BitVec.xor_assoc, BitVec.xor_self, BitVec.xor_zero]

/-- Doubling is linear: the shift is, and so is the reduction, which reads bit 7 (R118). -/
theorem xtime_xor (a b : Byte) : xtime (a ^^^ b) = xtime a ^^^ xtime b := by
  have hreduce : (if (a ^^^ b).getLsbD 7 then Config.reduce else 0)
      = (if a.getLsbD 7 then Config.reduce else 0) ^^^ (if b.getLsbD 7 then Config.reduce else 0) := by
    rw [BitVec.getLsbD_xor]
    cases a.getLsbD 7 <;> cases b.getLsbD 7 <;> rfl
  rw [xtime, hreduce, BitVec.shiftLeft_xor_distrib, xtime, xtime]
  ac_rfl

/-- R118's laws are one statement for each of the six multiplications. -/
theorem forall_multiplier_iff {p : (Byte → Byte) → Prop} :
    (∀ m ∈ [xtime, mul3, mul9, mulB, mulD, mulE], p m)
      ↔ p xtime ∧ p mul3 ∧ p mul9 ∧ p mulB ∧ p mulD ∧ p mulE := by
  simp only [List.forall_mem_cons, List.not_mem_nil, false_imp_iff, implies_true, and_true]

/-- Each multiplication is a sum of repeated doublings, and doubling is linear. -/
theorem multiplier_xor :
    ∀ m ∈ [xtime, mul3, mul9, mulB, mulD, mulE], ∀ a b : Byte, m (a ^^^ b) = m a ^^^ m b := by
  rw [forall_multiplier_iff]
  refine ⟨xtime_xor, ?_, ?_, ?_, ?_, ?_⟩ <;> intro a b <;>
    simp only [mul3, mul9, mulB, mulD, mulE, xtime_xor] <;> ac_rfl

/-- Only 0 is multiplied to 0: none of the six constants is 0 in the field (R118). -/
theorem eq_zero_of_multiplier_eq_zero :
    ∀ m ∈ [xtime, mul3, mul9, mulB, mulD, mulE], ∀ x : Byte, m x = 0 → x = 0 := by
  rw [forall_multiplier_iff]
  decide +kernel

/-- A linear map of bytes that sends only 0 to 0 is injective, and so a bijection. -/
theorem bijective_of_linear {m : Byte → Byte} (hlinear : ∀ a b, m (a ^^^ b) = m a ^^^ m b)
    (hzero : m 0 = 0) (hkernel : ∀ x, m x = 0 → x = 0) : Function.Bijective m := by
  refine Finite.injective_iff_bijective.mp fun a b hab => BitVec.xor_eq_zero_iff.mp (hkernel _ ?_)
  rw [hlinear, hab, ← hlinear, BitVec.xor_self]
  exact hzero

theorem mul3_xor_xtime (x : Byte) : mul3 x ^^^ xtime x = x := by
  rw [mul3, BitVec.xor_comm, xor_xor_cancel_left]

/-- The constants of a row of MIXCOLUMNS add up to 1 (R118). -/
theorem mixColumn_row_sum (x : Byte) : xtime x ^^^ mul3 x ^^^ x ^^^ x = x := by
  rw [xor_xor_cancel_right, BitVec.xor_comm, mul3_xor_xtime]

/-- The constants of a row of INVMIXCOLUMNS add up to 1 (R118). -/
theorem invMixColumn_row_sum (x : Byte) : mulE x ^^^ mulB x ^^^ mulD x ^^^ mul9 x = x := by
  simp only [mulE, mulB, mulD, mul9, BitVec.xor_assoc, xor_left_comm, BitVec.xor_comm, BitVec.xor_self,
    BitVec.xor_zero, xor_xor_cancel_left]

/-- On equal bytes every row is the sum of its constants, in some order. -/
theorem mixColumn_of_equal_bytes (x : Byte) : mixColumn ⟨x, x, x, x⟩ = ⟨x, x, x, x⟩ := by
  have hrow := mixColumn_row_sum x
  simp only [mixColumn, Word4.mk.injEq]
  exact ⟨hrow, .trans (by ac_rfl) hrow, .trans (by ac_rfl) hrow, .trans (by ac_rfl) hrow⟩

theorem invMixColumn_of_equal_bytes (x : Byte) : invMixColumn ⟨x, x, x, x⟩ = ⟨x, x, x, x⟩ := by
  have hrow := invMixColumn_row_sum x
  simp only [invMixColumn, Word4.mk.injEq]
  exact ⟨hrow, .trans (by ac_rfl) hrow, .trans (by ac_rfl) hrow, .trans (by ac_rfl) hrow⟩

/-- Settles O8: linearity comes from doubling's, the bijection from the kernel, and the columns from the sums of a
row's constants. -/
theorem multipliersAreLinearBijections : Obligations.MultipliersAreLinearBijections := by
  unfold Obligations.MultipliersAreLinearBijections
  refine ⟨fun m hm => ?_, fun x => ⟨mul3_xor_xtime x, mixColumn_row_sum x, invMixColumn_row_sum x⟩,
    fun x => ⟨mixColumn_of_equal_bytes x, invMixColumn_of_equal_bytes x⟩⟩
  have hzero : m 0x00 = 0x00 := by
    revert m
    rw [forall_multiplier_iff]
    decide
  exact ⟨multiplier_xor m hm, hzero,
    bijective_of_linear (multiplier_xor m hm) hzero (eq_zero_of_multiplier_eq_zero m hm)⟩

/-- A product by a constant below 16 is the sum of the doublings at the constant's set bits (R119). -/
theorem gmul_of_lt_sixteen (a b : Byte) (h : b.toNat < 16) : gmul a b =
    (if b.getLsbD 0 then a else 0) ^^^ (if b.getLsbD 1 then xtime a else 0)
      ^^^ (if b.getLsbD 2 then xtime (xtime a) else 0) ^^^ (if b.getLsbD 3 then xtime (xtime (xtime a)) else 0) := by
  have hhigh (n : Nat) (hn : 16 ≤ 2 ^ n) : b.getLsbD n = false := Nat.testBit_lt_two_pow (h.trans_le hn)
  have hrange : List.range 8 = [0, 1, 2, 3, 4, 5, 6, 7] := rfl
  simp only [gmul, hrange, List.foldl_cons, List.foldl_nil, hhigh 4, hhigh 5, hhigh 6, hhigh 7, Nat.reducePow,
    Nat.reduceLeDiff, Bool.false_eq_true, if_false]
  simp only [xtimes, BitVec.ofNat_eq_ofNat, BitVec.xor_zero, BitVec.zero_xor]

/-- Settles O9: the constants are below 16, and each multiplication is the sum of the doublings at its constant's set
bits, written in another order. -/
theorem multipliersAreFieldProducts : Obligations.MultipliersAreFieldProducts := by
  unfold Obligations.MultipliersAreFieldProducts
  intro x
  refine ⟨?_, ?_, ?_, ?_, ?_, ?_⟩ <;> rw [gmul_of_lt_sixteen _ _ (by decide)] <;>
    simp [mul3, mul9, mulB, mulD, mulE] <;> ac_rfl

/-! ## The tables -/

/-- The affine map of the construction (R134). -/
def affineImage (y : Byte) : Byte :=
  y ^^^ y.rotateLeft 1 ^^^ y.rotateLeft 2 ^^^ y.rotateLeft 3 ^^^ y.rotateLeft 4 ^^^ 0x63

/-- The affine map's inverse. -/
def affinePreimage (x : Byte) : Byte := x.rotateLeft 1 ^^^ x.rotateLeft 3 ^^^ x.rotateLeft 6 ^^^ 0x05

theorem affineImage_affinePreimage : ∀ x : Byte, affineImage (affinePreimage x) = x := by decide +kernel

/-- What the affine map takes to `SBOX[b]` is the inverse of b in the field, or 0 for 0 (R134). -/
theorem affinePreimage_sbox :
    ∀ b : Byte, if b = 0 then affinePreimage (sbox b) = 0 else gmul b (affinePreimage (sbox b)) = 1 := by
  decide +kernel

theorem sbox_ne_self : ∀ b : Byte, sbox b ≠ b := by decide +kernel

theorem rcTable_get : ∀ j : Fin 10, rcTable[j] = xtimes j.val 0x01 := by decide

/-- Settles O10: the two look-ups undo each other, and the field inverse is read back from the table through the affine
map's inverse. -/
theorem tablesAreTheirConstruction : Obligations.TablesAreTheirConstruction := by
  unfold Obligations.TablesAreTheirConstruction
  exact ⟨fun b => ⟨invSbox_sbox b, sbox_invSbox b, sbox_ne_self b⟩,
    fun b => ⟨affinePreimage (sbox b), affinePreimage_sbox b, (affineImage_affinePreimage (sbox b)).symm⟩,
    rcTable_get⟩

/-! ## The byte substitutions and the row rotations -/

theorem invSubBytes_subBytes (s : Block) : invSubBytes (subBytes s) = s := by
  refine Vector.ext fun n hn => ?_
  rw [invSubBytes_get _ ⟨n, hn⟩, subBytes_get _ ⟨n, hn⟩, invSbox_sbox]

theorem subBytes_invSubBytes (s : Block) : subBytes (invSubBytes s) = s := by
  refine Vector.ext fun n hn => ?_
  rw [subBytes_get _ ⟨n, hn⟩, invSubBytes_get _ ⟨n, hn⟩, sbox_invSbox]

/-- A substitution of single bytes does not see where the bytes stand (R182). -/
theorem invSubBytes_invShiftRows (s : Block) : invSubBytes (invShiftRows s) = invShiftRows (invSubBytes s) := by
  refine Vector.ext fun n hn => ?_
  rw [invSubBytes_get _ ⟨n, hn⟩, invShiftRows_get _ ⟨n, hn⟩, invShiftRows_get _ ⟨n, hn⟩]
  exact (invSubBytes_get s ⟨_, by omega⟩).symm

/-- Settles O13: bytes are substituted one by one, and the two tables undo each other. -/
theorem subBytesInverse : Obligations.SubBytesInverse := by
  unfold Obligations.SubBytesInverse
  exact fun s => ⟨fun n => ⟨subBytes_get s n, invSubBytes_get s n⟩, invSubBytes_subBytes s, subBytes_invSubBytes s,
    invSubBytes_invShiftRows s⟩

/-- Row r of SHIFTROWS is row r rotated left by r (R163). -/
theorem shiftRows_row (s : Block) (r c : Fin 4) :
    (shiftRows s)[r.val + 4 * c.val] = s[r.val + 4 * ((c.val + r.val) % 4)] := by
  have hrow : (r.val + 4 * c.val) % 4 = r.val := by omega
  have hcol : (r.val + 4 * c.val) / 4 = c.val := by omega
  simpa only [hrow, hcol] using shiftRows_get s ⟨r.val + 4 * c.val, by omega⟩

/-- Row r of INVSHIFTROWS is row r rotated right by r (R181). -/
theorem invShiftRows_row (s : Block) (r c : Fin 4) :
    (invShiftRows s)[r.val + 4 * c.val] = s[r.val + 4 * ((c.val + 4 - r.val) % 4)] := by
  have hrow : (r.val + 4 * c.val) % 4 = r.val := by omega
  have hcol : (r.val + 4 * c.val) / 4 = c.val := by omega
  simpa only [hrow, hcol] using invShiftRows_get s ⟨r.val + 4 * c.val, by omega⟩

/-- Two blocks with the same entries in every row and column are equal (R11). -/
theorem block_ext_entry {s t : Block}
    (h : ∀ r c : Fin 4, s[r.val + 4 * c.val] = t[r.val + 4 * c.val]) : s = t := by
  refine Vector.ext fun n hn => ?_
  simpa only [Nat.mod_add_div] using h ⟨n % 4, by omega⟩ ⟨n / 4, by omega⟩

theorem invShiftRows_shiftRows (s : Block) : invShiftRows (shiftRows s) = s := by
  refine block_ext_entry fun r c => ?_
  have hcol : ((c.val + 4 - r.val) % 4 + r.val) % 4 = c.val := by omega
  rw [invShiftRows_row]
  exact (shiftRows_row s r ⟨(c.val + 4 - r.val) % 4, by omega⟩).trans (by simp only [hcol])

theorem shiftRows_invShiftRows (s : Block) : shiftRows (invShiftRows s) = s := by
  refine block_ext_entry fun r c => ?_
  have hcol : ((c.val + r.val) % 4 + 4 - r.val) % 4 = c.val := by omega
  rw [shiftRows_row]
  exact (invShiftRows_row s r ⟨(c.val + r.val) % 4, by omega⟩).trans (by simp only [hcol])

theorem shiftRows_eq (s : Block) : shiftRows s =
    #v[s[0], s[5], s[10], s[15], s[4], s[9], s[14], s[3], s[8], s[13], s[2], s[7], s[12], s[1], s[6], s[11]] := by
  refine Vector.ext fun n hn => ?_
  interval_cases n <;> simp [shiftRows]

theorem invShiftRows_eq (s : Block) : invShiftRows s =
    #v[s[0], s[13], s[10], s[7], s[4], s[1], s[14], s[11], s[8], s[5], s[2], s[15], s[12], s[9], s[6], s[3]] := by
  refine Vector.ext fun n hn => ?_
  interval_cases n <;> simp [invShiftRows]

/-- Settles O14: the entries by rows and columns, read off the definition's index; the tables list them. -/
theorem shiftRowsPermutesAndInverts : Obligations.ShiftRowsPermutesAndInverts := by
  unfold Obligations.ShiftRowsPermutesAndInverts
  exact ⟨fun s => ⟨shiftRows_row s, shiftRows_eq s, invShiftRows_row s, invShiftRows_eq s,
      invShiftRows_shiftRows s, shiftRows_invShiftRows s⟩,
    fun x => shiftRows_eq _, shiftRows_eq _, invShiftRows_eq _⟩

/-! ## The column products -/

/-- Each byte of a column product is the double of a sum of two neighbours, plus the sum of the three other bytes. -/
theorem mixColumn_eq (a : Word4) : mixColumn a =
    ⟨xtime (a.b0 ^^^ a.b1) ^^^ (a.b1 ^^^ a.b2 ^^^ a.b3), xtime (a.b1 ^^^ a.b2) ^^^ (a.b2 ^^^ a.b3 ^^^ a.b0),
      xtime (a.b2 ^^^ a.b3) ^^^ (a.b3 ^^^ a.b0 ^^^ a.b1), xtime (a.b3 ^^^ a.b0) ^^^ (a.b0 ^^^ a.b1 ^^^ a.b2)⟩ := by
  simp only [mixColumn, mul3, xtime_xor, Word4.mk.injEq]
  exact ⟨by ac_rfl, by ac_rfl, by ac_rfl, by ac_rfl⟩

theorem mixColumn_rotWord (a : Word4) : mixColumn (rotWord a) = rotWord (mixColumn a) := by
  simp only [mixColumn_eq, rotWord]

theorem invMixColumn_rotWord (a : Word4) : invMixColumn (rotWord a) = rotWord (invMixColumn a) := by
  simp only [invMixColumn, rotWord, Word4.mk.injEq]
  exact ⟨by ac_rfl, by ac_rfl, by ac_rfl, by ac_rfl⟩

/-- The square of MIXCOLUMNS's circulant matrix: the circulant of 05, 00, 04, 00. -/
def mixColumnTwice (a : Word4) : Word4 where
  b0 := a.b0 ^^^ xtime (xtime (a.b0 ^^^ a.b2))
  b1 := a.b1 ^^^ xtime (xtime (a.b1 ^^^ a.b3))
  b2 := a.b2 ^^^ xtime (xtime (a.b2 ^^^ a.b0))
  b3 := a.b3 ^^^ xtime (xtime (a.b3 ^^^ a.b1))

theorem mixColumnTwice_rotWord (a : Word4) : mixColumnTwice (rotWord a) = rotWord (mixColumnTwice a) := rfl

/-- A circulant map is known by the first byte of its results. -/
theorem circulant_ext {f g : Word4 → Word4} (hf : ∀ a, f (rotWord a) = rotWord (f a))
    (hg : ∀ a, g (rotWord a) = rotWord (g a)) (h : ∀ a, (f a).b0 = (g a).b0) (a : Word4) : f a = g a := by
  have h1 := h (rotWord a)
  have h2 := h (rotWord (rotWord a))
  have h3 := h (rotWord (rotWord (rotWord a)))
  simp only [hf, hg] at h1 h2 h3
  exact (Word4.mk.injEq ..).mpr ⟨h a, h1, h2, h3⟩

theorem mixColumn_mixColumn (a : Word4) : mixColumn (mixColumn a) = mixColumnTwice a := by
  refine circulant_ext (f := fun a => mixColumn (mixColumn a)) (fun a => ?_) mixColumnTwice_rotWord (fun a => ?_) a
  · simp only [mixColumn_rotWord]
  · simp only [mixColumn_eq, mixColumnTwice, xtime_xor]
    simp only [BitVec.xor_assoc, xor_left_comm, BitVec.xor_comm, BitVec.xor_self, BitVec.zero_xor,
      xor_xor_cancel_left]

/-- The added multiples by 4 are the same in opposite bytes, so they are not seen by a second turn, and cancel. -/
theorem mixColumnTwice_mixColumnTwice (a : Word4) : mixColumnTwice (mixColumnTwice a) = a := by
  have opposite (x y c : Byte) : (x ^^^ c) ^^^ (y ^^^ c) = x ^^^ y := by
    rw [BitVec.xor_comm y c, BitVec.xor_assoc, xor_xor_cancel_left]
  simp only [mixColumnTwice, BitVec.xor_comm a.b2 a.b0, BitVec.xor_comm a.b3 a.b1, opposite, xor_xor_cancel_right]

/-- INVMIXCOLUMNS's matrix is the third power of MIXCOLUMNS's. -/
theorem invMixColumn_eq (a : Word4) : invMixColumn a = mixColumn (mixColumnTwice a) := by
  refine circulant_ext (g := fun a => mixColumn (mixColumnTwice a)) invMixColumn_rotWord (fun a => ?_) (fun a => ?_) a
  · simp only [mixColumnTwice_rotWord, mixColumn_rotWord]
  · have hpair : (mixColumnTwice a).b0 ^^^ (mixColumnTwice a).b1
        = a.b0 ^^^ a.b1 ^^^ xtime (xtime (a.b0 ^^^ a.b1 ^^^ a.b2 ^^^ a.b3)) := by
      simp only [mixColumnTwice, xtime_xor]
      ac_rfl
    have hrest : (mixColumnTwice a).b1 ^^^ (mixColumnTwice a).b2 ^^^ (mixColumnTwice a).b3
        = a.b1 ^^^ a.b2 ^^^ a.b3 ^^^ xtime (xtime (a.b0 ^^^ a.b2)) := by
      rw [← xor_xor_cancel_right (_ ^^^ xtime (xtime (a.b0 ^^^ a.b2))) (xtime (xtime (a.b1 ^^^ a.b3)))]
      simp only [mixColumnTwice, xtime_xor]
      ac_rfl
    simp only [mixColumn_eq, hpair, hrest, invMixColumn, mul9, mulB, mulD, mulE, xtime_xor]
    ac_rfl

theorem mixColumn_invMixColumn (a : Word4) : mixColumn (invMixColumn a) = a := by
  rw [invMixColumn_eq, mixColumn_mixColumn, mixColumnTwice_mixColumnTwice]

theorem invMixColumn_mixColumn (a : Word4) : invMixColumn (mixColumn a) = a := by
  rw [invMixColumn_eq, ← mixColumn_mixColumn, mixColumn_mixColumn a, mixColumn_mixColumn,
    mixColumnTwice_mixColumnTwice]

theorem invMixColumns_mixColumns (s : Block) : invMixColumns (mixColumns s) = s :=
  block_ext_column fun c => by rw [column_invMixColumns, column_mixColumns, invMixColumn_mixColumn]

theorem mixColumns_invMixColumns (s : Block) : mixColumns (invMixColumns s) = s :=
  block_ext_column fun c => by rw [column_mixColumns, column_invMixColumns, mixColumn_invMixColumn]

/-- Settles O15: MIXCOLUMNS's matrix has order 4, and INVMIXCOLUMNS's is its third power. -/
theorem mixColumnsInverse : Obligations.MixColumnsInverse := by
  unfold Obligations.MixColumnsInverse
  exact fun s => ⟨fun c => ⟨column_mixColumns s c, column_invMixColumns s c⟩, invMixColumns_mixColumns s,
    mixColumns_invMixColumns s⟩

/-! ## The block transforms -/

/-- If an inverse round takes `g` of a round's result to `g` of the round's operand, then the inverse rounds in the
other order take `g` of all rounds' result to `g` of the first operand. -/
theorem foldl_reverse_of_undoes {α β : Type} {f f' : β → α → β} {g : β → β}
    (h : ∀ s r, f' (g (f s r)) r = g s) (rs : List α) (s : β) :
    rs.reverse.foldl f' (g (rs.foldl f s)) = g s := by
  induction rs generalizing s with
  | nil => rfl
  | cons r rs ih => rw [List.foldl_cons, List.reverse_cons, List.foldl_append, ih, List.foldl_cons, List.foldl_nil, h]

/-- A block goes through the substitution and the row rotation between two round keys' additions. -/
theorem inverseRound_forwardRound (sch : Schedule) (s : Block) (r : Fin 11) :
    inverseRound sch (shiftRows (subBytes (forwardRound sch s r))) r = shiftRows (subBytes s) := by
  rw [inverseRound, invShiftRows_shiftRows, invSubBytes_subBytes, forwardRound, addRoundKey_addRoundKey,
    invMixColumns_mixColumns]

theorem forwardRound_inverseRound (sch : Schedule) (s : Block) (r : Fin 11) :
    forwardRound sch (invSubBytes (invShiftRows (inverseRound sch s r))) r = invSubBytes (invShiftRows s) := by
  rw [forwardRound, subBytes_invSubBytes, shiftRows_invShiftRows, inverseRound, mixColumns_invMixColumns,
    addRoundKey_addRoundKey]

theorem decryptBlock_encryptBlock (sch : Schedule) (p : Block) : decryptBlock sch (encryptBlock sch p) = p := by
  have hrounds := foldl_reverse_of_undoes (g := fun s => shiftRows (subBytes s)) (inverseRound_forwardRound sch)
    [1, 2, 3, 4, 5, 6, 7, 8, 9] (addRoundKey sch 0 p)
  simp only [List.reverse_cons, List.reverse_nil, List.nil_append, List.cons_append] at hrounds
  simp only [decryptBlock, encryptBlock, addRoundKey_addRoundKey, hrounds, invShiftRows_shiftRows, invSubBytes_subBytes]

theorem encryptBlock_decryptBlock (sch : Schedule) (c : Block) : encryptBlock sch (decryptBlock sch c) = c := by
  have hrounds := foldl_reverse_of_undoes (g := fun s => invSubBytes (invShiftRows s)) (forwardRound_inverseRound sch)
    [9, 8, 7, 6, 5, 4, 3, 2, 1] (addRoundKey sch 10 c)
  simp only [List.reverse_cons, List.reverse_nil, List.nil_append, List.cons_append] at hrounds
  simp only [decryptBlock, encryptBlock, addRoundKey_addRoundKey, hrounds, subBytes_invSubBytes, shiftRows_invShiftRows]

/-- Settles O16: each round of one transform undoes the other transform's round of the same round key. -/
theorem blockRoundTrip : Obligations.BlockRoundTrip := by
  unfold Obligations.BlockRoundTrip
  exact fun sch => ⟨decryptBlock_encryptBlock sch, encryptBlock_decryptBlock sch⟩

/-- Settles O17: DecryptBlock is the inverse. -/
theorem encryptBlockIsBijective : Obligations.EncryptBlockIsBijective := by
  unfold Obligations.EncryptBlockIsBijective
  exact fun sch => Function.bijective_iff_has_inverse.mpr
    ⟨decryptBlock sch, decryptBlock_encryptBlock sch, encryptBlock_decryptBlock sch⟩

/-- The source's vector, evaluated (95_test_vectors.md V1). -/
theorem encryptBlock_knownPlain : encryptBlock (keyExpansion knownKey) knownPlain = knownCipher := by decide +kernel

/-- Settles O18: V1 is evaluated, and V2 is its round trip. -/
theorem knownAnswerVector : Obligations.KnownAnswerVector := by
  unfold Obligations.KnownAnswerVector
  exact ⟨encryptBlock_knownPlain, by rw [← encryptBlock_knownPlain, decryptBlock_encryptBlock]⟩

/-! ## All that a command can do -/

/-- A command is stopped by the prologue, or its own function runs on the object it names (R200). -/
theorem exec_cases {i : Instr} {s t : State} (h : exec i s = .next t) :
    (∃ c, (c = .faulted ∨ c = .nullRef) ∧ t = s.concluded i.opcode c) ∨
    (s.fault = false ∧ i.kobj = 0 ∧ (i.opcode = 1 ∨ s.bound = true) ∧
      t = (commandBody i s.env (s.useAnswers.logOp i.opcode)).1.report
        (commandBody i s.env (s.useAnswers.logOp i.opcode)).2) := by
  rw [exec_eq_runCommand] at h
  cases h
  exact runCommand_cases i.opcode i.kobj (commandBody i) s

/-- A wipe's code is one of two (R242). -/
theorem warnIf_cases (failed : Bool) : warnIf failed = .ok ∨ warnIf failed = .wipeWarn := by
  cases failed
  · exact .inl rfl
  · exact .inr rfl

/-- ENCRYPT and DECRYPT leave the keys alone, and write DATA_OUT with RES_OK only (R166, R185). -/
theorem blockCommand_frame (f : Schedule → Block → Block) (len : Nat) (e : Env) (s : State) :
    ((blockCommand f len e s).1.k = s.k ∧ (blockCommand f len e s).1.ic = s.ic) ∧
    (blockCommand f len e s).1.sched = s.sched ∧
    ((blockCommand f len e s).1.dataOut = s.dataOut ∨ (blockCommand f len e s).2 = .ok) ∧
    (blockCommand f len e s).1.params = s.params := by
  obtain ⟨-, h⟩ | ⟨-, -, h⟩ | ⟨-, -, -, h⟩ | ⟨-, -, -, h⟩ := blockCommand_cases f len e s <;> simp [h]

/-- K and IC are SET_KEY's and DESTROY's, SCHED is theirs and DELETE_KEYS's, DATA_OUT is that of a successful ENCRYPT or
DECRYPT, and the parameters are nobody's (R23, R31, R32, R35, R44). -/
theorem commandBody_frame (i : Instr) (e : Env) (s : State) :
    ((commandBody i e s).1.k = s.k ∧ (commandBody i e s).1.ic = s.ic ∨ i.opcode = 2 ∨ i.opcode = 8) ∧
    ((commandBody i e s).1.sched = s.sched ∨ i.opcode = 2 ∨ i.opcode = 7 ∨ i.opcode = 8) ∧
    ((commandBody i e s).1.dataOut = s.dataOut ∨ (i.opcode = 3 ∨ i.opcode = 4) ∧ (commandBody i e s).2 = .ok) ∧
    (commandBody i e s).1.params = s.params := by
  cases i with
  | create kobj =>
    obtain ⟨-, h⟩ | ⟨-, h⟩ := createObject_cases e s <;> simp [commandBody, h]
  | setKey kobj len =>
    obtain ⟨-, h⟩ | ⟨-, -, h⟩ | ⟨-, -, h⟩ := setKey_cases len e s <;> simp [commandBody, h, Instr.opcode]
  | encrypt kobj len | decrypt kobj len =>
    simpa [commandBody, Instr.opcode] using blockCommand_frame _ len e s
  | setMask kobj | unmask kobj => simp [commandBody, setMaskFlag, clearMaskFlag]
  | deleteKeys kobj =>
    obtain ⟨-, h⟩ | ⟨-, h⟩ := deleteKeysCmd_cases e s <;> simp [commandBody, h, Instr.opcode]
  | destroy kobj => simp [commandBody, destroyObject_eq, Instr.opcode]

/-! ## All that a step can do -/

/-- The part of a state that bus accesses and stopped commands leave alone: all but the host's buffers, the report of
the last command, and the model's own record of answers, inputs and bus (those are blanked here). -/
def State.inner (s : State) : State :=
  { s with
    result := .ok, lastop := 0, keyIn := zeroBytes 16, dataIn := zeroBytes 16, answers := [], draws := 0, inputs := []
    response := .none }

/-- A word either leaves the inner part alone, or is a command whose own function runs. -/
theorem execute_inner_cases {w : BusWord} {s t : State} (h : execute w s = .next t) :
    t.inner = s.inner ∨
    ∃ i e u, decode w = .ok i ∧ u.inner = s.inner ∧ (i.opcode = 1 ∨ u.bound = true) ∧
      t = (commandBody i e u).1.report (commandBody i e u).2 := by
  by_cases hill : IllegalWord w
  · rw [execute_of_illegalWord hill] at h
    cases h
    exact .inl rfl
  · obtain ⟨i, hdec⟩ := exists_decode_of_not_illegalWord hill
    rw [execute_of_decode_ok hdec] at h
    obtain ⟨c, -, rfl⟩ | ⟨-, -, hexists, ht⟩ := exec_cases h
    · exact .inl rfl
    · exact .inr ⟨i, s.env, s.useAnswers.logOp i.opcode, hdec, rfl, hexists, ht⟩

/-- What a step does to the inner part: nothing, the reset, the corruption of K, or one command's own function. -/
theorem step_inner_cases {s t : State} (h : step s = .next t) :
    (s.inputs.head? ≠ some .reset ∧ t.inner = s.inner) ∨
    (s.inputs.head? = some .reset ∧ t.inner = s.onReset.inner) ∨
    (∃ k', s.inputs.head? = some (.corrupt k') ∧ t.inner = (s.overwriteKey k').inner) ∨
    ∃ i e u, s.inputs.head?.bind Input.command = some i ∧ u.inner = s.inner ∧ (i.opcode = 1 ∨ u.bound = true) ∧
      t = (commandBody i e u).1.report (commandBody i e u).2 := by
  obtain ⟨hin, rfl⟩ | ⟨x, rest, hin, hx⟩ := step_cases h <;> rw [hin]
  · exact .inl ⟨nofun, rfl⟩
  obtain ⟨-, hacc, r, rfl⟩ | ⟨w, v, rfl, rfl⟩ | ⟨w, v, rfl, rfl⟩ | ⟨v, rfl, hexec⟩ | ⟨rfl, rfl⟩ |
    ⟨k', rfl, -, rfl⟩ := hx
  · refine .inl ⟨?_, rfl⟩
    rintro ⟨⟩
    cases hacc
  · exact .inl ⟨nofun, rfl⟩
  · exact .inl ⟨nofun, rfl⟩
  · obtain hsame | ⟨i, e, u, hdec, hu, hexists, ht⟩ := execute_inner_cases hexec
    · exact .inl ⟨nofun, hsame⟩
    · refine .inr (.inr (.inr ⟨i, e, u, ?_, hu, hexists, ht⟩))
      simp [Input.command, hdec, Except.toOption]
  · exact .inr (.inl ⟨rfl, rfl⟩)
  · exact .inr (.inr (.inl ⟨k', rfl, rfl⟩))

/-! ## The invariant -/

theorem inv_inner_iff (s : State) : Inv s.inner ↔ Inv s :=
  ⟨fun h => { h with }, fun h => { h with }⟩

/-- Inv reads nothing but the inner part. -/
theorem Inv.of_inner_eq {s t : State} (h : Inv s) (heq : t.inner = s.inner) : Inv t := by
  rwa [← inv_inner_iff, heq, inv_inner_iff]

/-- The reset event clears whatever the invariant asks of an unbound object (R281). -/
theorem inv_onReset {s : State} (hwidth : 1 ≤ s.params.icw) : Inv s.onReset where
  rdy_sheld := nofun
  sheld_bound := nofun
  masked_bound := nofun
  unbound_clear _ := ⟨State.onReset_info s, State.onReset_flags s, rfl⟩
  bound_info := nofun
  width_pos := hwidth
  code_width := Nat.two_pow_pos _

/-- Settles O48: the reset state is what the event leaves of it, and ICW is one more than a number. -/
theorem invariantHoldsAtReset : Obligations.InvariantHoldsAtReset := by
  unfold Obligations.InvariantHoldsAtReset
  exact inv_onReset (s := State.reset) (Nat.succ_pos _)

/-! One rule for each update: what it must find to keep the invariant. -/

section
variable {s : State}

theorem Inv.setRdy_false (h : Inv s) : Inv (s.setRdy false) := { h with rdy_sheld := nofun }

theorem Inv.setRdy_true (h : Inv s) (hsheld : s.sheld = true) : Inv (s.setRdy true) :=
  { h with rdy_sheld := fun _ => hsheld }

theorem Inv.raiseFault (h : Inv s) : Inv { s with fault := true } := { h with }

theorem Inv.writeDataOut (h : Inv s) (v : Block) : Inv (s.writeDataOut v) := { h with }

theorem Inv.overwriteKey (h : Inv s) (v : Block) : Inv (s.overwriteKey v) := { h with }

theorem Inv.setMasked (h : Inv s) (hbound : s.bound = true) (b : Bool) : Inv (s.setMasked b) :=
  { h with
    masked_bound := fun _ => hbound
    unbound_clear := fun hunbound => by rw [State.setMasked_bound, hbound] at hunbound; cases hunbound }

/-- A new key's code has ICW bits. -/
theorem Inv.installKey (h : Inv s) (hbound : s.bound = true) : Inv s.installKey :=
  { h with
    unbound_clear := fun hunbound => by rw [State.installKey_bound, hbound] at hunbound; cases hunbound
    code_width := icode_lt _ _ }

theorem Inv.holdSchedule (h : Inv s) (hbound : s.bound = true) (v : Schedule) : Inv (s.holdSchedule v) :=
  { h with
    rdy_sheld := fun _ => rfl
    sheld_bound := fun _ => hbound }

theorem Inv.releaseSchedule (h : Inv s) (hrdy : s.rdy = false) (v : Schedule) : Inv (s.releaseSchedule v) :=
  { h with
    rdy_sheld := fun hready => by rw [State.releaseSchedule_rdy, hrdy] at hready; cases hready
    sheld_bound := nofun }

theorem Inv.bindObject (h : Inv s) : Inv s.bindObject :=
  { h with
    rdy_sheld := nofun
    sheld_bound := fun _ => rfl
    masked_bound := nofun
    unbound_clear := nofun
    bound_info := fun _ => ⟨rfl, rfl, rfl⟩ }

theorem State.unbindObject_info : s.unbindObject.info = 0 := by simp [State.info]

theorem State.unbindObject_flags : s.unbindObject.flags = 0 := by simp [State.flags, bit32]

/-- Unbinding clears whatever the invariant asks of an unbound object, once the schedule is released (R206). -/
theorem inv_unbindObject (hsheld : s.sheld = false) (hwidth : 1 ≤ s.params.icw) : Inv s.unbindObject where
  rdy_sheld := nofun
  sheld_bound hheld := by rw [State.unbindObject_sheld, hsheld] at hheld; cases hheld
  masked_bound := nofun
  unbound_clear _ := ⟨State.unbindObject_info, State.unbindObject_flags, rfl⟩
  bound_info := nofun
  width_pos := hwidth
  code_width := Nat.two_pow_pos _

end

/-- Every command's own function keeps the invariant where the prologue lets it run. -/
theorem commandBody_inv {i : Instr} {s : State} (h : Inv s) (hexists : i.opcode = 1 ∨ s.bound = true) (e : Env) :
    Inv (commandBody i e s).1 := by
  have hbound : i.opcode ≠ 1 → s.bound = true := hexists.resolve_left
  cases i with
  | create kobj =>
    obtain ⟨-, heq⟩ | ⟨-, heq⟩ := createObject_cases e s <;> rw [commandBody, heq]
    · exact h
    · exact h.bindObject
  | setKey kobj len =>
    replace hbound := hbound (by simp [Instr.opcode])
    obtain ⟨-, heq⟩ | ⟨-, -, heq⟩ | ⟨-, -, heq⟩ := setKey_cases len e s <;> rw [commandBody, heq]
    · exact h.setRdy_false
    · exact h.setRdy_false.installKey hbound
    · exact ((h.setRdy_false.installKey hbound).holdSchedule hbound _).setRdy_true rfl
  | encrypt kobj len | decrypt kobj len =>
    obtain ⟨-, heq⟩ | ⟨-, -, heq⟩ | ⟨-, -, -, heq⟩ | ⟨-, -, -, heq⟩ := blockCommand_cases _ len e s <;>
      rw [commandBody, heq]
    · exact h
    · exact h.raiseFault
    · exact h.setRdy_false
    · exact h.writeDataOut _
  | setMask kobj | unmask kobj => exact h.setMasked (hbound (by simp [Instr.opcode])) _
  | deleteKeys kobj =>
    obtain ⟨-, heq⟩ | ⟨-, heq⟩ := deleteKeysCmd_cases e s <;> rw [commandBody, heq]
    · exact h.setRdy_false.releaseSchedule rfl _
    · exact h.setRdy_false
  | destroy kobj =>
    rw [commandBody, destroyObject_eq]
    exact inv_unbindObject rfl h.width_pos

/-- Settles O49: a step leaves the inner part alone, resets it, corrupts K, which the invariant does not read, or runs a
command's own function. -/
theorem stepKeepsInvariant : Obligations.StepKeepsInvariant := by
  unfold Obligations.StepKeepsInvariant
  intro s t h hstep
  obtain ⟨-, heq⟩ | ⟨-, heq⟩ | ⟨k', -, heq⟩ | ⟨i, e, u, -, heq, hexists, rfl⟩ := step_inner_cases hstep
  · exact h.of_inner_eq heq
  · exact (inv_onReset h.width_pos).of_inner_eq heq
  · exact (h.overwriteKey k').of_inner_eq heq
  · exact (commandBody_inv (h.of_inner_eq heq) hexists e).of_inner_eq rfl

/-- INFO of a bound object: the constants of R29. -/
theorem info_of_bound {s : State} (h : Inv s) (hbound : s.bound = true) : s.info = 0x00011010 := by
  obtain ⟨hkeysize, hblksize, hvariant⟩ := h.bound_info hbound
  simp [State.info, hkeysize, hblksize, hvariant]

/-- Settles O28: FLAGS is one bit, and INFO is what the invariant says of it. -/
theorem flagsAndInfoValues : Obligations.FlagsAndInfoValues := by
  unfold Obligations.FlagsAndInfoValues
  refine ⟨fun s => ?_, fun s h => ?_⟩
  · cases hmasked : s.masked <;> simp [State.flags, bit32, hmasked]
  · cases hbound : s.bound
    · exact (h.unbound_clear hbound).1
    · exact info_of_bound h hbound

/-- Settles O29: the numbers, and their bound, are evaluated. -/
theorem resultCodeNumbers : Obligations.ResultCodeNumbers := by
  unfold Obligations.ResultCodeNumbers
  exact ⟨rfl, fun c => by cases c <;> decide⟩

/-! ## The schedule and the code of an uncorrupted key -/

theorem scheduleCurrent_inner_iff (s : State) : ScheduleCurrent s.inner ↔ ScheduleCurrent s := Iff.rfl

theorem ScheduleCurrent.of_inner_eq {s t : State} (h : ScheduleCurrent s) (heq : t.inner = s.inner) :
    ScheduleCurrent t := by
  rwa [← scheduleCurrent_inner_iff, heq, scheduleCurrent_inner_iff]

/-- An object that is not ready has no schedule to be current. -/
theorem scheduleCurrent_of_not_rdy {s : State} (h : s.rdy = false) : ScheduleCurrent s := fun hrdy => by
  rw [h] at hrdy
  cases hrdy

theorem ScheduleCurrent.writeDataOut {s : State} (h : ScheduleCurrent s) (v : Block) :
    ScheduleCurrent (s.writeDataOut v) := h

/-- Only SET_KEY raises RDY, and it does so with the schedule and the code of the key it installed (R202). -/
theorem commandBody_scheduleCurrent {s : State} (h : ScheduleCurrent s) (i : Instr) (e : Env) :
    ScheduleCurrent (commandBody i e s).1 := by
  cases i with
  | create kobj =>
    obtain ⟨-, heq⟩ | ⟨-, heq⟩ := createObject_cases e s <;> rw [commandBody, heq]
    · exact h
    · exact scheduleCurrent_of_not_rdy rfl
  | setKey kobj len =>
    obtain ⟨-, heq⟩ | ⟨-, -, heq⟩ | ⟨-, -, heq⟩ := setKey_cases len e s <;> rw [commandBody, heq]
    · exact scheduleCurrent_of_not_rdy rfl
    · exact scheduleCurrent_of_not_rdy rfl
    · exact fun _ => ⟨rfl, rfl⟩
  | encrypt kobj len | decrypt kobj len =>
    obtain ⟨-, heq⟩ | ⟨-, -, heq⟩ | ⟨-, -, -, heq⟩ | ⟨-, -, -, heq⟩ := blockCommand_cases _ len e s <;>
      rw [commandBody, heq]
    · exact h
    · exact h
    · exact scheduleCurrent_of_not_rdy rfl
    · exact h.writeDataOut _
  | setMask kobj | unmask kobj => exact h
  | deleteKeys kobj =>
    obtain ⟨-, heq⟩ | ⟨-, heq⟩ := deleteKeysCmd_cases e s <;> rw [commandBody, heq] <;>
      exact scheduleCurrent_of_not_rdy rfl
  | destroy kobj =>
    rw [commandBody, destroyObject_eq]
    exact scheduleCurrent_of_not_rdy rfl

/-- Settles O50: RDY is 0 after reset, and but for the corruption of K only commands' own functions touch what the
clause speaks of. -/
theorem stepKeepsScheduleCurrent : Obligations.StepKeepsScheduleCurrent := by
  unfold Obligations.StepKeepsScheduleCurrent
  refine ⟨scheduleCurrent_of_not_rdy rfl, fun s t h hcorrupt hstep => ?_⟩
  obtain ⟨-, heq⟩ | ⟨-, heq⟩ | ⟨k', hhead, -⟩ | ⟨i, e, u, -, heq, -, rfl⟩ := step_inner_cases hstep
  · exact h.of_inner_eq heq
  · exact (scheduleCurrent_of_not_rdy rfl : ScheduleCurrent s.onReset).of_inner_eq heq
  · cases hcorrupt _ hhead
  · exact (commandBody_scheduleCurrent (h.of_inner_eq heq) i e).of_inner_eq rfl

/-! ## The lifecycle -/

section
variable {s : State}

theorem lifecycle_eq_unbound (hfault : s.fault = false) (hbound : s.bound = false) : s.lifecycle = .unbound := by
  simp [State.lifecycle, hfault, hbound]

theorem lifecycle_eq_empty (hfault : s.fault = false) (hbound : s.bound = true) (hrdy : s.rdy = false) :
    s.lifecycle = .empty := by
  simp [State.lifecycle, hfault, hbound, hrdy]

theorem lifecycle_eq_keyed (hfault : s.fault = false) (hbound : s.bound = true) (hrdy : s.rdy = true) :
    s.lifecycle = .keyed := by
  simp [State.lifecycle, hfault, hbound, hrdy]

end

theorem lifecycle_writeDataOut (s : State) (v : Block) : (s.writeDataOut v).lifecycle = s.lifecycle := rfl

/-- The prologue's codes are on no transition (R41). -/
theorem nextLifecycle_of_stopped {c : ResultCode} (h : c = .faulted ∨ c = .nullRef) (i : Instr) (l : Lifecycle) :
    nextLifecycle i c l = l := by
  obtain rfl | rfl := h <;> cases i <;> rfl

/-- A command's own function moves the lifecycle along the transition of its code. -/
theorem commandBody_lifecycle {i : Instr} {s : State} (hfault : s.fault = false)
    (hexists : i.opcode = 1 ∨ s.bound = true) (e : Env) :
    (commandBody i e s).1.lifecycle = nextLifecycle i (commandBody i e s).2 s.lifecycle := by
  have hbound : i.opcode ≠ 1 → s.bound = true := hexists.resolve_left
  cases i with
  | create kobj =>
    obtain ⟨-, heq⟩ | ⟨-, heq⟩ := createObject_cases e s <;> rw [commandBody, heq]
    · rfl
    · exact lifecycle_eq_empty hfault rfl rfl
  | setKey kobj len =>
    replace hbound := hbound (by simp [Instr.opcode])
    obtain ⟨-, heq⟩ | ⟨-, -, heq⟩ | ⟨-, -, heq⟩ := setKey_cases len e s <;> rw [commandBody, heq]
    · exact lifecycle_eq_empty hfault hbound rfl
    · exact lifecycle_eq_empty hfault hbound rfl
    · obtain hcode | hcode := warnIf_cases (s.sheld && !e.wipeSched.ok) <;> rw [hcode] <;>
        exact lifecycle_eq_keyed hfault hbound rfl
  | encrypt kobj len | decrypt kobj len =>
    replace hbound := hbound (by simp [Instr.opcode])
    obtain ⟨-, heq⟩ | ⟨-, -, heq⟩ | ⟨-, -, -, heq⟩ | ⟨-, -, -, heq⟩ := blockCommand_cases _ len e s <;>
      rw [commandBody, heq]
    · rfl
    · rfl
    · exact lifecycle_eq_empty hfault hbound rfl
    · exact lifecycle_writeDataOut s _
  | setMask kobj | unmask kobj => rfl
  | deleteKeys kobj =>
    replace hbound := hbound (by simp [Instr.opcode])
    obtain ⟨-, heq⟩ | ⟨-, heq⟩ := deleteKeysCmd_cases e s <;> rw [commandBody, heq]
    · obtain hcode | hcode := warnIf_cases (!e.wipeSched.ok) <;> rw [hcode] <;>
        exact lifecycle_eq_empty hfault hbound rfl
    · exact lifecycle_eq_empty hfault hbound rfl
  | destroy kobj =>
    rw [commandBody, destroyObject_eq]
    obtain hcode | hcode := warnIf_cases (s.sheld && !e.wipeSched.ok || !e.wipeKey.ok) <;> rw [hcode] <;>
      exact lifecycle_eq_unbound hfault rfl

theorem exec_lifecycle {i : Instr} {s t : State} (h : exec i s = .next t) :
    t.lifecycle = nextLifecycle i t.result s.lifecycle := by
  obtain ⟨c, hc, rfl⟩ | ⟨hfault, -, hexists, rfl⟩ := exec_cases h
  · rw [State.concluded_result, nextLifecycle_of_stopped hc]
    rfl
  · exact commandBody_lifecycle (s := s.useAnswers.logOp i.opcode) hfault hexists s.env

/-- The lifecycle is a matter of the inner part. -/
theorem lifecycle_of_inner_eq {s t : State} (h : t.inner = s.inner) : t.lifecycle = s.lifecycle :=
  (congrArg State.lifecycle h :)

/-- Settles O51: commands move along the transitions of their own functions, and every other input but reset leaves
FAULT, BOUND and RDY alone. -/
theorem lifecycleTransitions : Obligations.LifecycleTransitions := by
  unfold Obligations.LifecycleTransitions
  refine ⟨fun s i => ⟨_, exec_eq_runCommand i s, exec_lifecycle (exec_eq_runCommand i s)⟩, fun s t hstep => ?_⟩
  obtain ⟨hhead, heq⟩ | ⟨hhead, heq⟩ | ⟨k', hhead, heq⟩ | ⟨i, e, u, hcmd, -⟩ := step_inner_cases hstep
  · exact ⟨fun h => absurd h hhead, fun _ _ => lifecycle_of_inner_eq heq⟩
  · exact ⟨fun _ => lifecycle_of_inner_eq (s := s.onReset) heq, fun h => absurd hhead h⟩
  · rw [hhead]
    exact ⟨nofun, fun _ _ => lifecycle_of_inner_eq (s := s.overwriteKey k') heq⟩
  · refine ⟨fun h => ?_, fun _ h => ?_⟩ <;> rw [h] at hcmd <;> cases hcmd

/-! ## What a step can write -/

/-- Settles O60: a command's own function, the reset and the corruption of K all keep the parameters. -/
theorem stepKeepsParameters : Obligations.StepKeepsParameters := by
  unfold Obligations.StepKeepsParameters
  intro s t hstep
  obtain ⟨-, heq⟩ | ⟨-, heq⟩ | ⟨k', -, heq⟩ | ⟨i, e, u, -, heq, -, rfl⟩ := step_inner_cases hstep
  · exact (congrArg State.params heq :)
  · exact (congrArg State.params heq :)
  · exact (congrArg State.params heq :)
  · obtain ⟨-, -, -, hparams⟩ := commandBody_frame i e u
    exact hparams.trans (congrArg State.params heq :)

/-- Settles O52: of all that a step can do only the reset and a command's own function reach DATA_OUT. -/
theorem dataOutWrittenOnlyBySuccess : Obligations.DataOutWrittenOnlyBySuccess := by
  unfold Obligations.DataOutWrittenOnlyBySuccess
  intro s t hstep hne
  obtain ⟨-, heq⟩ | ⟨hhead, -⟩ | ⟨k', -, heq⟩ | ⟨i, e, u, hcmd, heq, -, rfl⟩ := step_inner_cases hstep
  · exact absurd (congrArg State.dataOut heq :) hne
  · exact .inl hhead
  · exact absurd (congrArg State.dataOut heq :) hne
  · obtain ⟨-, -, hkeeps | ⟨hopc, hcode⟩, -⟩ := commandBody_frame i e u
    · exact absurd (hkeeps.trans (congrArg State.dataOut heq :)) hne
    · exact .inr ⟨i, hcmd, hopc, hcode⟩

/-- Settles O53: as above, with the corruption event reaching K. -/
theorem secretsWrittenOnlyByLifecycle : Obligations.SecretsWrittenOnlyByLifecycle := by
  unfold Obligations.SecretsWrittenOnlyByLifecycle
  intro s t hstep hreset
  obtain ⟨-, heq⟩ | ⟨hhead, -⟩ | ⟨k', hhead, heq⟩ | ⟨i, e, u, hcmd, heq, -, rfl⟩ := step_inner_cases hstep
  · exact ⟨fun hne => absurd (congrArg State.k heq :) hne, fun hne => absurd (congrArg State.ic heq :) hne,
      fun hne => absurd (congrArg State.sched heq :) hne⟩
  · exact absurd hhead hreset
  · exact ⟨fun _ => .inl ⟨_, hhead, rfl⟩, fun hne => absurd (congrArg State.ic heq :) hne,
      fun hne => absurd (congrArg State.sched heq :) hne⟩
  · obtain ⟨hkey, hsched, -, -⟩ := commandBody_frame i e u
    refine ⟨fun hne => .inr ⟨i, hcmd, hkey.resolve_left ?_⟩, fun hne => ⟨i, hcmd, hkey.resolve_left ?_⟩,
      fun hne => ⟨i, hcmd, hsched.resolve_left ?_⟩⟩
    · exact fun ⟨hk, _⟩ => hne (hk.trans (congrArg State.k heq :))
    · exact fun ⟨_, hic⟩ => hne (hic.trans (congrArg State.ic heq :))
    · exact fun hkeeps => hne (hkeeps.trans (congrArg State.sched heq :))

/-! ## Every input completes -/

theorem busWrite_inputs (r : Reg) (v : BusWord) (s : State) :
    ∃ t, busWrite r v s = .next t ∧ t.inputs = s.inputs := by
  obtain ⟨-, h⟩ | ⟨w, -, h⟩ | ⟨w, -, h⟩ | ⟨-, h⟩ := busWrite_cases r v s <;> rw [h]
  · obtain ⟨t, ht, hside⟩ := execute_hostSide v s
    exact ⟨t, ht, congrArg HostSide.inputs hside⟩
  all_goals exact ⟨_, rfl, rfl⟩

/-- Every input that the environment can give takes effect, and leaves the inputs after it pending (R70). -/
theorem deliver_inputs {x : Input} {s : State} (h : x.isCorruption = false ∨ s.params.admitCorruption = true) :
    ∃ t, deliver x s = .next t ∧ t.inputs = s.inputs := by
  cases x with
  | read off => cases hreg : regAt off <;> simp only [deliver, hreg] <;> exact ⟨_, rfl, rfl⟩
  | write off v =>
    cases hreg : regAt off <;> simp only [deliver, hreg]
    · exact ⟨_, rfl, rfl⟩
    · exact busWrite_inputs _ v (s.respond .done)
  | oddRead | oddWrite | reset => exact ⟨_, rfl, rfl⟩
  | corrupt k' =>
    have hadmit : (s.respond .none).params.admitCorruption = true := h.resolve_left nofun
    simp only [deliver, corruptKey, hadmit, if_true]
    exact ⟨_, rfl, rfl⟩

/-- Settles O26: a step delivers the first input, and only the corruption event can be inadmissible. -/
theorem everyInputCompletes : Obligations.EveryInputCompletes := by
  unfold Obligations.EveryInputCompletes
  refine ⟨fun s hin => by simp only [step, takeInput, hin],
    fun s x rest hin => ⟨fun hcorrupt hadmit => ?_, fun h => ?_⟩⟩
  · cases x with
    | corrupt k' =>
      rw [step_of_inputs hin]
      simp [deliver, corruptKey, hadmit]
    | read | write | oddRead | oddWrite | reset => cases hcorrupt
  · rw [step_of_inputs hin]
    exact deliver_inputs (s := s.withInputs rest) h

/-! ## The pseudo-instructions -/

theorem run_succ {s t : State} (h : step s = .next t) (n : Nat) :
    Sys2Proof.core.run (n + 1) s = Sys2Proof.core.run n t := by
  have hcore : Sys2Proof.core.step s = .next t := h
  simp only [Host.Core.run, hcore]

/-- A write of word w with the bytes of a block brings the buffer's word w to the block's. -/
theorem unpack_pack_get (x b : Block) (w : Fin 4) (n : Fin 16) :
    (unpack x w (pack b w))[n.val] = if n.val / 4 = w.val then b[n.val] else x[n.val] := by
  rw [unpack_get]
  split_ifs with hword
  · have hn : 4 * w.val + n.val % 4 = n.val := by omega
    simpa only [hn] using pack_lane b w ⟨n.val % 4, by omega⟩
  · rfl

/-- The four words of a block, written one after another, are the block (R98). -/
theorem unpack_pack_words (x b : Block) :
    unpack (unpack (unpack (unpack x 0 (pack b 0)) 1 (pack b 1)) 2 (pack b 2)) 3 (pack b 3) = b := by
  refine Vector.ext fun n hn => ?_
  have hbyte (y : Block) (w : Fin 4) := unpack_pack_get y b w ⟨n, hn⟩
  have hword : n / 4 = 0 ∨ n / 4 = 1 ∨ n / 4 = 2 ∨ n / 4 = 3 := by omega
  obtain h | h | h | h := hword <;> simp [hbyte, h]

theorem run_loadKey {s : State} {b : Block} {rest : List Input} (h : s.inputs = Script.loadKey b ++ rest) :
    Sys2Proof.core.run 4 s = .next { s with keyIn := b, inputs := rest, response := .done } := by
  rw [run_succ (step_write_offset (.keyIn 0) h), run_succ (step_write_offset (.keyIn 1) rfl),
    run_succ (step_write_offset (.keyIn 2) rfl), run_succ (step_write_offset (.keyIn 3) rfl)]
  exact congrArg (fun x => Host.Outcome.next { s with keyIn := x, inputs := rest, response := .done })
    (unpack_pack_words s.keyIn b)

theorem run_loadBlk {s : State} {b : Block} {rest : List Input} (h : s.inputs = Script.loadBlk b ++ rest) :
    Sys2Proof.core.run 4 s = .next { s with dataIn := b, inputs := rest, response := .done } := by
  rw [run_succ (step_write_offset (.dataIn 0) h), run_succ (step_write_offset (.dataIn 1) rfl),
    run_succ (step_write_offset (.dataIn 2) rfl), run_succ (step_write_offset (.dataIn 3) rfl)]
  exact congrArg (fun x => Host.Outcome.next { s with dataIn := x, inputs := rest, response := .done })
    (unpack_pack_words s.dataIn b)

theorem clearKey_eq_loadKey : Script.clearKey = Script.loadKey (Vector.replicate 16 0) := by decide

/-- The reads of READBLK answer the words of DATA_OUT in turn (R98). -/
theorem run_readBlk {s : State} {rest : List Input} (h : s.inputs = Script.readBlk ++ rest) (w : Fin 4) :
    ∃ t, Sys2Proof.core.run (w.val + 1) s = .next t ∧ t.response = .value (pack s.dataOut w) := by
  have read (n : Nat) := run_succ (step_read_offset (.dataOut 0) h) n
  fin_cases w
  · exact ⟨_, read 0, rfl⟩
  · exact ⟨_, (read 1).trans (run_succ (step_read_offset (.dataOut 1) rfl) 0), rfl⟩
  · exact ⟨_, (read 2).trans ((run_succ (step_read_offset (.dataOut 1) rfl) 1).trans
      (run_succ (step_read_offset (.dataOut 2) rfl) 0)), rfl⟩
  · exact ⟨_, (read 3).trans ((run_succ (step_read_offset (.dataOut 1) rfl) 2).trans
      ((run_succ (step_read_offset (.dataOut 2) rfl) 1).trans (run_succ (step_read_offset (.dataOut 3) rfl) 0))), rfl⟩

/-- Settles O30: four writes of the words of a block make a buffer the block, whatever it held, and CLEARKEY is LOADKEY
of zeros. -/
theorem pseudoInstructionsMoveBlocks : Obligations.PseudoInstructionsMoveBlocks := by
  unfold Obligations.PseudoInstructionsMoveBlocks
  refine ⟨fun s b rest => run_loadKey, fun s b rest => run_loadBlk, fun s rest hin => ?_, fun s rest => run_readBlk,
    by decide⟩
  rw [clearKey_eq_loadKey] at hin
  exact run_loadKey hin

/-! ## What commands leave alone -/

/-- No command's own function touches the record of answers. -/
theorem commandBody_answers (i : Instr) (e : Env) (s : State) :
    (commandBody i e s).1.answers = s.answers ∧ (commandBody i e s).1.draws = s.draws := by
  cases i with
  | create kobj =>
    obtain ⟨-, h⟩ | ⟨-, h⟩ := createObject_cases e s <;> simp [commandBody, h]
  | setKey kobj len =>
    obtain ⟨-, h⟩ | ⟨-, -, h⟩ | ⟨-, -, h⟩ := setKey_cases len e s <;> simp [commandBody, h]
  | encrypt kobj len | decrypt kobj len =>
    obtain ⟨-, h⟩ | ⟨-, -, h⟩ | ⟨-, -, -, h⟩ | ⟨-, -, -, h⟩ := blockCommand_cases _ len e s <;>
      rw [commandBody, h] <;> simp
  | setMask kobj | unmask kobj => exact ⟨rfl, rfl⟩
  | deleteKeys kobj =>
    obtain ⟨-, h⟩ | ⟨-, h⟩ := deleteKeysCmd_cases e s <;> simp [commandBody, h]
  | destroy kobj => simp [commandBody, destroyObject_eq]

/-- A command uses up one record of answers, whether it was stopped or ran (R261). -/
theorem exec_answers {i : Instr} {s t : State} (h : exec i s = .next t) :
    t.answers = s.answers.tail ∧ t.draws = s.draws + 1 := by
  obtain ⟨c, -, rfl⟩ | ⟨-, -, -, rfl⟩ := exec_cases h
  · exact ⟨rfl, rfl⟩
  · exact commandBody_answers i s.env (s.useAnswers.logOp i.opcode)

/-- Settles O33: the host's side is kept, LASTOP is the opcode, and a record is used up. -/
theorem commandsKeepHostBuffers : Obligations.CommandsKeepHostBuffers := by
  unfold Obligations.CommandsKeepHostBuffers
  intro i s
  obtain ⟨t, ht, hside⟩ := exec_hostSide i s
  obtain ⟨t', ht', hlastop⟩ := exec_lastop i s
  obtain rfl : t = t' := Host.Outcome.next.inj (ht.symm.trans ht')
  obtain ⟨hanswers, hdraws⟩ := exec_answers ht
  exact ⟨t, ht, congrArg HostSide.keyIn hside, congrArg HostSide.dataIn hside, congrArg HostSide.params hside,
    congrArg HostSide.inputs hside, congrArg HostSide.response hside, hlastop, hanswers, hdraws⟩

/-! ## Integrity and constrained answers -/

/-- Settles O36: the three cases of ScheduleKeys. -/
theorem scheduleKeysOutcomes : Obligations.ScheduleKeysOutcomes := by
  unfold Obligations.ScheduleKeysOutcomes
  intro e s
  obtain ⟨hint, h⟩ | ⟨hint, halloc, h⟩ | ⟨hint, halloc, h⟩ := scheduleKeys_cases e s
  · have hic : icode s.params s.k ≠ s.ic := by simpa [State.integrityOk] using hint
    exact ⟨fun _ => h, fun heq => absurd heq hic, fun heq => absurd heq hic⟩
  · have hic := (integrityOk_iff s).mp hint
    refine ⟨fun hne => absurd hic hne, fun _ _ => h, fun _ hok => ?_⟩
    rw [halloc] at hok
    cases hok
  · have hic := (integrityOk_iff s).mp hint
    refine ⟨fun hne => absurd hic hne, fun _ hfail => ?_, fun _ _ => ?_⟩
    · rw [halloc] at hfail
      cases hfail
    · rw [h, warnIf_eq_ite (p := s.sheld = true ∧ e.wipeSched.ok = false) (by simp)]
      rfl

/-- A ready object whose schedule is current passes the integrity check. -/
theorem integrityOk_of_scheduleCurrent {s : State} (h : ScheduleCurrent s) (hrdy : s.rdy = true) :
    s.integrityOk = true :=
  (integrityOk_iff s).mpr (h hrdy).2.symm

/-- A word's code is the prologue's, or that of a command's own tests (R245). -/
theorem firstCode_cases (w : BusWord) (s : State) :
    (firstCode w s = .faulted ∨ firstCode w s = .illegalCmd ∨ firstCode w s = .nullRef) ∨
    ∃ i, firstCode w s = firstCodeOf i s := by
  unfold firstCode
  split_ifs
  · exact .inl (.inl rfl)
  · split
    · exact .inl (.inr (.inl rfl))
    · split_ifs
      · exact .inl (.inr (.inr rfl))
      · exact .inl (.inr (.inr rfl))
      · exact .inr ⟨_, rfl⟩

/-- A word does not end with a code that neither the prologue nor any command's own tests give. -/
theorem firstCode_ne {c : ResultCode} {s : State} (hprologue : c ≠ .faulted ∧ c ≠ .illegalCmd ∧ c ≠ .nullRef)
    (hbody : ∀ i, firstCodeOf i s ≠ c) (w : BusWord) : firstCode w s ≠ c := by
  obtain ⟨hfaulted, hillegal, hnull⟩ := hprologue
  obtain (h | h | h) | ⟨i, h⟩ := firstCode_cases w s <;> rw [h]
  · exact hfaulted.symm
  · exact hillegal.symm
  · exact hnull.symm
  · exact hbody i

/-- While K is uncorrupted neither SET_KEY nor a block command finds a wrong code (R209, R268). -/
theorem firstCodeOf_ne_integrity {s : State} (h : ScheduleCurrent s) (i : Instr) : firstCodeOf i s ≠ .integrity := by
  cases i with
  | create kobj => simp only [firstCodeOf]; split_ifs <;> nofun
  | setKey kobj len =>
    simp only [firstCodeOf, integrityOk_installKey, Bool.true_eq_false, if_false]
    split_ifs <;> nofun
  | encrypt kobj len | decrypt kobj len =>
    simp only [firstCodeOf]
    split_ifs with hlen hrdy hbad
    · nofun
    · nofun
    · rw [integrityOk_of_scheduleCurrent h (Bool.eq_true_of_not_eq_false hrdy)] at hbad
      cases hbad
    · nofun
  | setMask kobj | unmask kobj => nofun
  | deleteKeys kobj => simp only [firstCodeOf]; split_ifs <;> nofun
  | destroy kobj => simp only [firstCodeOf]; split_ifs <;> nofun

/-- A word completes with its first code (R245). -/
theorem execute_firstCode (w : BusWord) (s : State) : ∃ t, execute w s = .next t ∧ t.result = firstCode w s := by
  obtain ⟨t, ht, -⟩ := execute_hostSide w s
  exact ⟨t, ht, execute_result ht⟩

/-- Settles O58: the integrity check passes wherever a command makes it. -/
theorem noIntegrityErrorWithoutCorruption : Obligations.NoIntegrityErrorWithoutCorruption := by
  unfold Obligations.NoIntegrityErrorWithoutCorruption
  intro s w h
  obtain ⟨t, ht, hcode⟩ := execute_firstCode w s
  exact ⟨t, ht, hcode ▸ firstCode_ne (by decide) (firstCodeOf_ne_integrity h) w⟩

/-- Where the primitives cannot fail the answers that a command reads say so (R261). -/
theorem env_allocOk {s : State} (h : s.params.allocCanFail = false) : s.env.allocOk = true := by
  simp [State.env, constrained, h]

theorem env_wipes_ok {s : State} (h : s.params.wipeCanFail = false) :
    s.env.wipeSched.ok = true ∧ s.env.wipeKey.ok = true := by
  simp [State.env, constrained, h]

theorem firstCodeOf_ne_noMemory {s : State} (h : s.env.allocOk = true) (i : Instr) : firstCodeOf i s ≠ .noMemory := by
  cases i with
  | setKey kobj len =>
    simp only [firstCodeOf, integrityOk_installKey, h, Bool.true_eq_false, if_false]
    split_ifs <;> nofun
  | setMask kobj | unmask kobj => nofun
  | create | encrypt | decrypt | deleteKeys | destroy => simp only [firstCodeOf]; split_ifs <;> nofun

theorem firstCodeOf_ne_wipeWarn {s : State} (h : s.env.wipeSched.ok = true ∧ s.env.wipeKey.ok = true) (i : Instr) :
    firstCodeOf i s ≠ .wipeWarn := by
  obtain ⟨hsched, hkey⟩ := h
  cases i with
  | setKey kobj len =>
    simp only [firstCodeOf, hsched, Bool.true_eq_false, and_false, if_false]
    split_ifs <;> nofun
  | deleteKeys | destroy => simp [firstCodeOf, hsched, hkey]
  | setMask kobj | unmask kobj => nofun
  | create | encrypt | decrypt => simp only [firstCodeOf]; split_ifs <;> nofun

/-- Settles O59: a failure's code comes from a failing answer. -/
theorem constrainedAnswersNeverFail : Obligations.ConstrainedAnswersNeverFail := by
  unfold Obligations.ConstrainedAnswersNeverFail
  refine ⟨rfl, fun s w => ?_⟩
  obtain ⟨t, ht, hcode⟩ := execute_firstCode w s
  exact ⟨t, ht, fun halloc => hcode ▸ firstCode_ne (by decide) (firstCodeOf_ne_noMemory (env_allocOk halloc)) w,
    fun hwipe => hcode ▸ firstCode_ne (by decide) (firstCodeOf_ne_wipeWarn (env_wipes_ok hwipe)) w⟩

/-! ## MASKED changes no command -/

theorem blockCommand_setMasked (f : Schedule → Block → Block) (len : Nat) (e : Env) (s : State) (b : Bool) :
    blockCommand f len e (s.setMasked b) = ((blockCommand f len e s).1.setMasked b, (blockCommand f len e s).2) := by
  obtain ⟨hlen, h⟩ | ⟨rfl, hrdy, h⟩ | ⟨rfl, hrdy, hbad, h⟩ | ⟨rfl, hrdy, hok, h⟩ := blockCommand_cases f len e s <;>
    rw [h]
  · exact blockCommand_of_len_ne f e hlen
  · exact blockCommand_of_not_rdy f e hrdy
  · exact blockCommand_of_icode_ne f e hrdy (by simpa [State.integrityOk] using hbad)
  · exact blockCommand_of_icode_eq f e hrdy ((integrityOk_iff s).mp hok)

theorem setKey_setMasked (len : Nat) (e : Env) (s : State) (b : Bool) :
    setKey len e (s.setMasked b) = ((setKey len e s).1.setMasked b, (setKey len e s).2) := by
  obtain ⟨hlen, h⟩ | ⟨rfl, halloc, h⟩ | ⟨rfl, halloc, h⟩ := setKey_cases len e s <;> rw [h]
  · exact setKey_of_len_ne e _ hlen
  · exact setKey_of_alloc_failed e _ halloc
  · exact setKey_of_alloc_ok e _ halloc

/-- Held or not, the schedule is released; only what is held is overwritten (R205). -/
theorem deleteKeysCmd_eq (e : Env) (s : State) :
    deleteKeysCmd e s =
      ((s.setRdy false).releaseSchedule (if s.sheld then e.wipeSched.contents else s.sched),
        warnIf (s.sheld && !e.wipeSched.ok)) := by
  rw [deleteKeysCmd, deleteIfHeld_eq]
  rfl

/-- No command's own function reads MASKED, so another value of it changes MASKED alone (R33). -/
theorem commandBody_setMasked (i : Instr) (e : Env) (s : State) (b : Bool) :
    ∃ b', commandBody i e (s.setMasked b) = ((commandBody i e s).1.setMasked b', (commandBody i e s).2) := by
  cases i with
  | create kobj =>
    obtain ⟨hbound, h⟩ | ⟨hbound, h⟩ := createObject_cases e s <;> rw [commandBody, h]
    · exact ⟨b, createObject_of_bound e hbound⟩
    · exact ⟨false, createObject_of_unbound e hbound⟩
  | setKey kobj len => exact ⟨b, setKey_setMasked len e s b⟩
  | encrypt kobj len | decrypt kobj len => exact ⟨b, blockCommand_setMasked _ len e s b⟩
  | setMask kobj => exact ⟨true, rfl⟩
  | unmask kobj => exact ⟨false, rfl⟩
  | deleteKeys kobj => exact ⟨b, by rw [commandBody, deleteKeysCmd_eq, deleteKeysCmd_eq]; rfl⟩
  | destroy kobj => exact ⟨false, by rw [commandBody, destroyObject_eq, destroyObject_eq]; rfl⟩

theorem exec_setMasked {i : Instr} {s t : State} (h : exec i s = .next t) (b : Bool) :
    ∃ b', exec i (s.setMasked b) = .next (t.setMasked b') := by
  rw [exec_eq_runCommand] at h
  cases h
  rw [exec_eq_runCommand]
  cases hp : prologue i.opcode i.kobj s with
  | some c => exact ⟨b, by rw [runCommand_stopped hp, runCommand_stopped (s := s.setMasked b) hp]; rfl⟩
  | none =>
    obtain ⟨b', hbody⟩ := commandBody_setMasked i s.env (s.useAnswers.logOp i.opcode) b
    rw [runCommand_runs hp, runCommand_runs (s := s.setMasked b) hp]
    exact ⟨b', congrArg (fun r : State × ResultCode => Host.Outcome.next (r.1.report r.2)) hbody⟩

theorem execute_setMasked {w : BusWord} {s t : State} (h : execute w s = .next t) (b : Bool) :
    ∃ b', execute w (s.setMasked b) = .next (t.setMasked b') := by
  cases hdec : decode w with
  | ok i =>
    rw [execute_of_decode_ok hdec] at h ⊢
    exact exec_setMasked h b
  | error r =>
    rw [execute_of_decode_error hdec] at h ⊢
    cases h
    exact ⟨b, rfl⟩

/-- Settles O55: the two states lead to states that differ in MASKED at most. -/
theorem maskedFlagChangesNoCommand : Obligations.MaskedFlagChangesNoCommand := by
  unfold Obligations.MaskedFlagChangesNoCommand
  intro s w b
  obtain ⟨t, ht, -⟩ := execute_hostSide w s
  obtain ⟨b', hu⟩ := execute_setMasked ht b
  exact ⟨t, t.setMasked b', ht, hu, rfl⟩

/-! ## Commands one after another -/

theorem runCommands_pair {i j : Instr} {s t u : State} (hi : exec i s = .next t) (hj : exec j t = .next u) :
    runCommands [i, j] s = .next u := by
  simp only [runCommands, hi, hj]

/-- Settles O43: each of the two commands writes MASKED whatever it was, and the block commands do not read it. -/
theorem maskFlagIdempotent : Obligations.MaskFlagIdempotent := by
  unfold Obligations.MaskFlagIdempotent
  refine ⟨fun s hfault hbound => ?_, fun s b len i _ => ?_⟩
  · obtain ⟨hset, hclear⟩ := maskCommandsWriteFlag s hfault hbound
    have next (m : Bool) (opc : BitVec 4) := maskCommandsWriteFlag { s.concluded opc .ok with masked := m } hfault hbound
    exact ⟨runCommands_pair hset (next true 5).1, runCommands_pair hclear (next false 6).2,
      runCommands_pair hset (next true 5).2⟩
  · obtain ⟨t, ht, -⟩ := exec_hostSide i s
    obtain ⟨b', hu⟩ := exec_setMasked ht b
    exact ⟨t, t.setMasked b', ht, hu, rfl⟩

/-- Settles O44: what a successful SET_KEY writes is computed from KEY_IN, over the old key, code and schedule. -/
theorem rekeyForgetsOldKey : Obligations.RekeyForgetsOldKey := by
  unfold Obligations.RekeyForgetsOldKey
  intro s t kobj len h hcode
  obtain ⟨c, hc, rfl⟩ | ⟨hfault, hkobj, hexists, -⟩ := exec_cases h
  · obtain rfl | rfl := hc <;> simp at hcode
  obtain rfl : kobj = 0 := hkobj
  have hbound : s.bound = true := hexists.resolve_left (by simp [Instr.opcode])
  obtain ⟨hlen, hfail, hrun⟩ := setKeyOutcomes s len hfault hbound
  by_cases hl : len = 16
  · cases halloc : s.env.allocOk with
    | false =>
      cases h.symm.trans (hfail hl halloc)
      simp at hcode
    | true =>
      cases h.symm.trans (hrun hl halloc)
      refine ⟨rfl, rfl, rfl, rfl, rfl, fun k' ic' sched' => ?_⟩
      obtain ⟨-, -, hother⟩ := setKeyOutcomes { s with k := k', ic := ic', sched := sched' } len hfault hbound
      exact hother hl halloc
  · cases h.symm.trans (hlen hl)
    simp at hcode

/-- Settles O45: the outcomes of SET_KEY, ENCRYPT and DECRYPT, one after another. -/
theorem wrongKeyLengthRejected : Obligations.WrongKeyLengthRejected := by
  unfold Obligations.WrongKeyLengthRejected
  intro s n hfault hbound hn
  obtain ⟨hreject, -, -⟩ := setKeyOutcomes s n hfault hbound
  refine ⟨_, hreject hn, rfl, rfl, ?_, ?_, fun halloc => ?_⟩
  · obtain ⟨-, hviolation, -⟩ := encryptOutcomes { s.concluded 2 .invalidLength with rdy := false } 16 hfault hbound
    exact ⟨_, hviolation rfl rfl, rfl, rfl⟩
  · obtain ⟨-, hviolation, -⟩ := decryptOutcomes { s.concluded 2 .invalidLength with rdy := false } 16 hfault hbound
    exact ⟨_, hviolation rfl rfl, rfl, rfl⟩
  · obtain ⟨-, -, hinstall⟩ := setKeyOutcomes { s.concluded 2 .invalidLength with rdy := false } 16 hfault hbound
    refine ⟨_, hinstall rfl (env_allocOk halloc), ?_, lifecycle_eq_keyed hfault hbound rfl⟩
    split_ifs
    · exact .inr rfl
    · exact .inl rfl

theorem deleteKeysCmd_of_sheld (e : Env) {s : State} (hsheld : s.sheld = true) :
    deleteKeysCmd e s = ((s.setRdy false).releaseSchedule e.wipeSched.contents, warnIf (!e.wipeSched.ok)) := by
  simp [deleteKeysCmd_eq, hsheld]

theorem destroyObject_of_sheld (e : Env) {s : State} (hsheld : s.sheld = true) :
    destroyObject e s =
      (((s.releaseSchedule e.wipeSched.contents).overwriteKey e.wipeKey.contents).unbindObject,
        warnIf (!e.wipeSched.ok || !e.wipeKey.ok)) := by
  simp [destroyObject_eq, hsheld]

/-- Each byte of what a wipe leaves (R264). -/
theorem wipe_contents_get {n : Nat} (w : Wipe n) (j : Fin n) : w.contents[j] = if w.ok then w.pat[j] else 0 := by
  unfold Wipe.contents
  split_ifs
  · rfl
  · simp [zeroBytes]

/-- Settles O46: what the wipes leave, and the rest of what the commands write, does not mention the old contents. -/
theorem wipedStoresForgetContents : Obligations.WipedStoresForgetContents := by
  unfold Obligations.WipedStoresForgetContents
  intro s hfault hbound hsheld
  have delete (sched' : Schedule) := exec_of_commandBody (i := .deleteKeys 0) (s := { s with sched := sched' }) rfl
    hfault (.inr hbound) (deleteKeysCmd_of_sheld _ hsheld)
  have destroy (k' : Block) (sched' : Schedule) := exec_of_commandBody (i := .destroy 0)
    (s := { s with k := k', sched := sched' }) rfl hfault (.inr hbound) (destroyObject_of_sheld _ hsheld)
  exact ⟨⟨_, delete s.sched, wipe_contents_get _, delete⟩,
    _, destroy s.k s.sched, wipe_contents_get _, wipe_contents_get _, destroy⟩

/-- Settles O47: each command's success is its block transform, K and IC stay what they were, and the transforms undo
each other. -/
theorem encryptThenDecryptReturnsBlock : Obligations.EncryptThenDecryptReturnsBlock := by
  unfold Obligations.EncryptThenDecryptReturnsBlock
  intro s hfault hbound hrdy hic
  obtain ⟨-, -, -, hencrypt⟩ := encryptOutcomes s 16 hfault hbound
  obtain ⟨-, -, -, hdecrypt⟩ := decryptOutcomes s 16 hfault hbound
  have back (opc : BitVec 4) (c : Block) :=
    decryptOutcomes { s.concluded opc .ok with dataIn := c, dataOut := c } 16 hfault hbound
  have forth (opc : BitVec 4) (c : Block) :=
    encryptOutcomes { s.concluded opc .ok with dataIn := c, dataOut := c } 16 hfault hbound
  constructor
  · obtain ⟨-, -, -, hback⟩ := back 3 (encryptBlock s.sched s.dataIn)
    exact ⟨_, _, hencrypt rfl hrdy hic, rfl, hback rfl hrdy hic, rfl, decryptBlock_encryptBlock s.sched s.dataIn⟩
  · obtain ⟨-, -, -, hforth⟩ := forth 4 (decryptBlock s.sched s.dataIn)
    exact ⟨_, _, hdecrypt rfl hrdy hic, rfl, hforth rfl hrdy hic, rfl, encryptBlock_decryptBlock s.sched s.dataIn⟩

/-- Settles O57: the state after the event is the old one but for K, and the third and fourth outcomes of ENCRYPT and
DECRYPT there compare the new key's code with the recorded one. -/
theorem corruptionEventDetected : Obligations.CorruptionEventDetected := by
  unfold Obligations.CorruptionEventDetected
  intro s k' rest hin hadmit
  have hstep : step s = .next { s with k := k', inputs := rest, response := .none } := by
    rw [step_of_inputs hin]
    exact if_pos hadmit
  refine ⟨_, hstep, rfl, fun hfault hbound hrdy => ?_⟩
  obtain ⟨-, -, hencryptBad, hencryptOk⟩ :=
    encryptOutcomes { s with k := k', inputs := rest, response := .none } 16 hfault hbound
  obtain ⟨-, -, hdecryptBad, hdecryptOk⟩ :=
    decryptOutcomes { s with k := k', inputs := rest, response := .none } 16 hfault hbound
  exact ⟨fun hne => ⟨⟨_, hencryptBad rfl hrdy hne, rfl, rfl⟩, _, hdecryptBad rfl hrdy hne, rfl, rfl⟩,
    fun heq => ⟨⟨_, hencryptOk rfl hrdy heq, rfl, rfl⟩, _, hdecryptOk rfl hrdy heq, rfl, rfl⟩⟩

/-! ## The bus reveals no secret -/

/-- The state with other contents of the registers that the host cannot read (R22, R31, R32, R35). -/
def State.withSecrets (s : State) (k : Block) (ic : Nat) (sched : Schedule) (keyIn : Block) : State :=
  { s with k := k, ic := ic, sched := sched, keyIn := keyIn }

theorem busRead_withSecrets (r : Reg) (s : State) (k : Block) (ic : Nat) (sched : Schedule) (keyIn : Block) :
    busRead r (s.withSecrets k ic sched keyIn) = busRead r s := by
  cases r <;> rfl

/-- A write that runs no command does the same whatever the secrets are, but for what it leaves in KEY_IN (R63). -/
theorem busWrite_withSecrets {r : Reg} {v : BusWord} (h : r = .cmd → ∃ e, decode v = .error e) (s : State) :
    ∃ t, busWrite r v s = .next t ∧ ∀ k ic sched keyIn, ∃ keyIn',
      busWrite r v (s.withSecrets k ic sched keyIn) = .next (t.withSecrets k ic sched keyIn') := by
  cases r with
  | cmd =>
    obtain ⟨e, he⟩ := h rfl
    exact ⟨_, execute_of_decode_error he s, fun k ic sched keyIn => ⟨keyIn, execute_of_decode_error he _⟩⟩
  | keyIn w => exact ⟨_, rfl, fun k ic sched keyIn => ⟨unpack keyIn w v, rfl⟩⟩
  | status | flags | info | dataIn | dataOut => exact ⟨_, rfl, fun k ic sched keyIn => ⟨keyIn, rfl⟩⟩

/-- A write to CMD that runs no command carries a word that the decoder refuses (R99). -/
theorem decode_error_of_command_eq_none {off : BitVec 6} {v : BusWord} (h : (Input.write off v).command = none)
    (hoff : regAt off = some .cmd) : ∃ e, decode v = .error e := by
  obtain rfl : Reg.cmd.offset = off := offset_of_regAt off .cmd hoff
  cases hdec : decode v with
  | error e => exact ⟨e, rfl⟩
  | ok i => simp [Input.command, Reg.offset, hdec, Except.toOption] at h

/-- An access that runs no command answers the same whatever the secrets are (R45). -/
theorem deliver_withSecrets {x : Input} (hacc : x.isAccess = true) (hcmd : x.command = none) (s : State) :
    ∃ t, deliver x s = .next t ∧ ∀ k ic sched keyIn, ∃ keyIn',
      deliver x (s.withSecrets k ic sched keyIn) = .next (t.withSecrets k ic sched keyIn') := by
  cases x with
  | read off =>
    cases hreg : regAt off <;> simp only [deliver, hreg, busRead_withSecrets]
    all_goals exact ⟨_, rfl, fun k ic sched keyIn => ⟨keyIn, rfl⟩⟩
  | write off v =>
    cases hreg : regAt off <;> simp only [deliver, hreg]
    · exact ⟨_, rfl, fun k ic sched keyIn => ⟨keyIn, rfl⟩⟩
    · exact busWrite_withSecrets (fun hr => decode_error_of_command_eq_none hcmd (hr ▸ hreg)) (s.respond .done)
  | oddRead | oddWrite => exact ⟨_, rfl, fun k ic sched keyIn => ⟨keyIn, rfl⟩⟩
  | reset | corrupt => cases hacc

/-- Settles O54: the two runs of an access differ in the secrets alone, and no register that the host reads shows
them. -/
theorem busReadsRevealNoSecret : Obligations.BusReadsRevealNoSecret := by
  unfold Obligations.BusReadsRevealNoSecret
  intro s x rest hin hacc hcmd
  obtain ⟨t, ht, hsame⟩ := deliver_withSecrets hacc hcmd (s.withInputs rest)
  refine ⟨t, (step_of_inputs hin).trans ht, fun k ic sched keyIn => ?_⟩
  obtain ⟨keyIn', hu⟩ := hsame k ic sched keyIn
  exact ⟨t.withSecrets k ic sched keyIn', (step_of_inputs (s := s.withSecrets k ic sched keyIn) hin).trans hu,
    rfl, rfl, rfl, rfl, rfl, rfl⟩

end Sys2Proof.Machine
end
